-- ==== Sys2Proof/Word.lean ====
section
/-! DEFINITION. The word types of the Sidetra 4820 model: the few values the manual treats as bits. -/

namespace Sys2Proof

/-- A byte of a port frame or of a fleet frame (R154, R123). -/
abbrev Byte := BitVec 8

/-- A value of the 24-bit capture counter (Table 4-1). -/
abbrev Capture := BitVec 24

/-- A CRC-16 check (R123, R154). -/
abbrev Check := BitVec 16

/-- A set of notice kinds, one bit per kind in the numbering of R166 (bits 12 to 15 of the 16-bit
field carry no meaning and are not held). -/
abbrev NoticeSet := BitVec 12

/-- A result code of the feeder converter (R74 to R76). -/
abbrev Code := BitVec 12

end Sys2Proof
end

