-- ==== Sys2Proof/Syntax.lean ====
section
/-! DEFINITION. The commands of the block: one constructor per row of the opcode table. -/

namespace Sys2Proof

/-- The two serial ports (chapter 10). -/
inductive Port where
  | market
  | operator
  deriving DecidableEq, Repr

/-- The commands and events the part takes, one constructor per row of the opcode table.

A request row stands for a complete request frame with a matching check received on a port (R154): it
carries the port, the tag and the body bytes as R166 lays them out, so that R155 can judge it whole. -/
inductive Instr where
  | powerOn (nomfHigh fsrcHigh : Bool)
  | supplyLoss
  | resetPinLow
  | resetPinRelease
  | restartReplySent
  | requestDiscarded (port : Port)
  | receiverSilence (port : Port)
  | unknownRequest (port : Port) (kind tag : Byte) (body : List Byte)
  | award (port : Port) (tag : Byte) (body : List Byte)
  | withdraw (port : Port) (tag : Byte) (body : List Byte)
  | release (port : Port) (tag : Byte) (body : List Byte)
  | bookOpen (port : Port) (tag : Byte) (body : List Byte)
  | bookNext (port : Port) (tag : Byte) (body : List Byte)
  | timeSync (port : Port) (tag : Byte) (body : List Byte)
  | slotBoundary
  | level (port : Port) (tag : Byte) (body : List Byte)
  | freq (port : Port) (tag : Byte) (body : List Byte)
  | planRead (port : Port) (tag : Byte) (body : List Byte)
  | availRead (port : Port) (tag : Byte) (body : List Byte)
  | enrol (port : Port) (tag : Byte) (body : List Byte)
  | retire (port : Port) (tag : Byte) (body : List Byte)
  | unitMode (port : Port) (tag : Byte) (body : List Byte)
  | unitTest (port : Port) (tag : Byte) (body : List Byte)
  | unitRead (port : Port) (tag : Byte) (body : List Byte)
  | logOpen (port : Port) (tag : Byte) (body : List Byte)
  | logNext (port : Port) (tag : Byte) (body : List Byte)
  | deliveryRead (port : Port) (tag : Byte) (body : List Byte)
  | paramSet (port : Port) (tag : Byte) (body : List Byte)
  | paramRead (port : Port) (tag : Byte) (body : List Byte)
  | paramDescribe (port : Port) (tag : Byte) (body : List Byte)
  | profileSave (port : Port) (tag : Byte) (body : List Byte)
  | saveWriteComplete
  | profileStartup (port : Port) (tag : Byte) (body : List Byte)
  | startupWriteComplete
  | profileLoad (port : Port) (tag : Byte) (body : List Byte)
  | noticeRead (port : Port) (tag : Byte) (body : List Byte)
  | noticeMask (port : Port) (tag : Byte) (body : List Byte)
  | statusRead (port : Port) (tag : Byte) (body : List Byte)
  | restart (port : Port) (tag : Byte) (body : List Byte)
  | attentionPulseTimer (port : Port)
  | lrefEdge (capture : Capture)
  | lossCompareExpiry
  | silenceTimerExpiry
  | conversionSetStart
  | conversionComplete (code : Code)
  | thermalUpdate
  | dispatchCycle
  | supportTimerExpiry (id : BitVec 16)
  | lockoutTimerExpiry (id : BitVec 16)
  | levelAgeLate
  | levelAgeExpired
  | testTimerExpiry
  | roundTimerExpiry
  | setpointFrameSent
  | reportFrameReceived (frame : List Byte)
  | reportLengthInvalid (length : Byte)
  | replyTimeout
  | quietEnd
  | secondInSlotAdvance
  | portByteReceived (port : Port) (byte : Byte)
  | replyTransmitted (port : Port)
  | quietCharacterReceived
  deriving DecidableEq, Repr

end Sys2Proof
end

