-- ==== Sys2Proof/Decode.lean ====
section
/-! DEFINITION. Reading a command from the bits of an opcode-table row. -/

namespace Sys2Proof

/-- No row of the opcode table gives bits: its commands are events and frames, not words. So no word
spells a command. The byte-level decoding of a request frame is `Machine.execPortByteReceived`. -/
def decodeTableWord (_nbits _w : Nat) : Option Instr := none

end Sys2Proof
end

