-- ==== Sys2Proof/Machine/Types.lean ====
section
/-! DEFINITION. The data types of the blocks' state (Tables 1-1 to 11-1). Quantities are numbers in the
spec's own units: power in W, energy in Wh, frequency in mHz, temperature in m°C, fractions in 1/4096. -/

namespace Sys2Proof.Machine

/-! ### Shared -/

/-- The two sides of reserve: upward (discharge) and downward (charge). -/
inductive Side where
  | up
  | down
  deriving DecidableEq, Repr

/-- A magnitude for each side. -/
structure Sides where
  up : Nat
  down : Nat
  deriving DecidableEq, Repr

/-- An armed timer on device time: when it was armed and for how long, both in crystal counts of
100 ns. Its expiry is a command of the opcode table (log entry 1). -/
structure Timer where
  since : Nat
  duration : Nat
  deriving DecidableEq, Repr

/-- A cursor of a port over the book or the log (R17, R150). -/
inductive Cursor (α : Type) where
  | closed
  | opened (last : Option α)
  deriving DecidableEq, Repr

/-- The straps as sampled at the last power-on (R171). -/
structure Straps where
  nomfHigh : Bool
  fsrcHigh : Bool
  deriving DecidableEq, Repr

/-! ### Slot Clock -/

/-- The Slot Clock (1.1). -/
structure Clock where
  set : Bool
  slot : Nat
  second : Nat
  ms : Nat
  deriving DecidableEq, Repr

/-! ### Commitment Book and Product Level Unit -/

inductive Product where
  | prop
  | trig
  | setp
  deriving DecidableEq, Repr

/-- The product and its parameter snapshot (R7). Deviations in mHz, endurances in minutes, the other
times in seconds. -/
inductive Snapshot where
  | prop (deadband full enduranceUp enduranceDown : Nat)
  | trig (deviation support ramp lockout : Nat)
  | setp (endurance rampTime : Nat)
  deriving DecidableEq, Repr

/-- The TRIG phases with what each phase holds (Table 5-2). -/
inductive TrigPhase where
  | ready (count : Nat)
  | firing (support : Timer)
  | releasing (left : Nat)
  | lockout (timer : Timer)
  deriving DecidableEq, Repr

/-- The product's own part of a level record (Table 5-2). -/
inductive Follower where
  | prop
  | trig (phase : TrigPhase)
  | setp (step : Nat)
  deriving DecidableEq, Repr

/-- A level record (Table 5-2): the level and required power are also the book record's. -/
structure LevelRecord where
  level : Int
  power : Int
  follower : Follower
  deriving DecidableEq, Repr

/-- The commitment states; a record in force or in overrun carries its level record (R78, R88). -/
inductive Standing where
  | pending
  | inForce (l : LevelRecord)
  | overrun (l : LevelRecord)
  deriving DecidableEq, Repr

/-- The at-risk mark (R55); `clear` is the spec's "none". -/
inductive Mark where
  | clear
  | planning
  | live
  deriving DecidableEq, Repr

/-- A commitment record (1.2). -/
structure Commitment where
  id : Nat
  marketRef : Nat
  seq : Nat
  start : Nat
  stop : Nat
  snapshot : Snapshot
  capacity : Sides
  requirement : Sides
  standing : Standing
  mark : Mark
  deriving DecidableEq, Repr

/-- The Commitment Book (R5, R6). `nextSeq` is absent once 4,294,967,295 has been assigned. -/
structure Book where
  records : List Commitment
  nextSeq : Option Nat
  lastId : Nat
  deriving DecidableEq, Repr

/-- The key of a commitment: start slot, then acceptance sequence (1.2). -/
abbrev Key := Nat × Nat

inductive TargetAge where
  | current
  | late
  | expired
  deriving DecidableEq, Repr

/-- The Product Level Unit's own state (Table 5-1); its level records stand in the book. -/
structure LevelUnit where
  holdover : Nat
  target : Int
  age : TargetAge
  ageTimer : Option Timer
  deriving DecidableEq, Repr

/-! ### Fleet Table -/

inductive LinkState where
  | joining
  | live
  | stale
  | lost
  deriving DecidableEq, Repr

/-- The modes a unit can be enrolled in; MANUAL carries its declared headroom (Table 2-1). -/
inductive EnrolMode where
  | off
  | auto
  | manual (declared : Sides)
  deriving DecidableEq, Repr

/-- The test record (Table 2-1, R34). The start time is device time in crystal counts. The test timer is
armed exactly while the record exists, from `start` for `duration` seconds. -/
structure TestRecord where
  start : Nat
  prior : EnrolMode
  preTest : Int
  power : Nat
  duration : Nat
  count : Nat
  accumulator : Int
  deriving DecidableEq, Repr

/-- The participation mode; mode TEST carries its test record (Table 2-1). -/
inductive Mode where
  | plain (m : EnrolMode)
  | test (t : TestRecord)
  deriving DecidableEq, Repr

structure BarReasons where
  fault : Bool
  optOut : Bool
  lowResponse : Bool
  deriving DecidableEq, Repr

inductive HoldKind where
  | withdraw
  | floor (energy : Nat)
  deriving DecidableEq, Repr

structure Hold where
  start : Nat
  stop : Nat
  kind : HoldKind
  deriving DecidableEq, Repr

/-- The latest report (Table 2-3), without its holds. -/
structure Report where
  soc : Nat
  capacity : Nat
  power : Int
  maxDischarge : Nat
  maxCharge : Nat
  floor : Nat
  fault : Nat
  optOut : Bool
  deriving DecidableEq, Repr

inductive TestOutcome where
  | passed (g : Nat)
  | low (g : Nat)
  | aborted
  deriving DecidableEq, Repr

/-- A unit record (Table 2-1). -/
structure UnitRecord where
  link : LinkState
  misses : Nat
  mode : Mode
  g : Nat
  bars : BarReasons
  report : Option Report
  holds : List Hold
  live : Sides
  participation : Int
  restoration : Int
  setpoint : Int
  baseline : Option Int
  lastTest : Option TestOutcome
  deriving DecidableEq, Repr

/-- The Fleet Table (R21): the non-vacant entries in table order; an address not listed is VACANT. -/
abbrev Fleet := List (Nat × UnitRecord)

/-- An entry of an enrolment list (11.1). -/
structure EnrolEntry where
  address : Nat
  mode : EnrolMode
  g : Nat
  deriving DecidableEq, Repr

/-! ### Headroom Engine -/

/-- A planning row (Table 3-2). `slot` is absent while the row stands for no slot (R45). -/
structure PlanRow where
  slot : Option Nat
  power : Sides
  energy : Sides
  committed : Sides
  required : Sides
  deriving DecidableEq, Repr

/-- The planning array and the horizon row (R45); an absent row is not listed. -/
structure Plan where
  rows : List PlanRow
  horizon : Option PlanRow
  deriving DecidableEq, Repr

/-- The live availability record (Table 3-1). -/
structure Availability where
  stamp : Option (Nat × Nat)
  eligible : Nat
  power : Sides
  energy : Sides
  forceCount : Nat
  forceCapacity : Sides
  forceRequirement : Sides
  liveMarked : Nat
  liveMarkedCapacity : Sides
  planningMarked : Nat
  deriving DecidableEq, Repr

/-! ### Line Frequency Meter and Feeder Analog Monitor -/

inductive MeterState where
  | acquiring
  | valid
  | invalid
  | lost
  deriving DecidableEq, Repr

/-- The Line Frequency Meter (Table 4-1). `lossCompare` holds the start point while armed. -/
structure Meter where
  counter : Capture
  previous : Option Capture
  window : List Nat
  badRun : Nat
  state : MeterState
  latest : Option Nat
  lossCompare : Option Capture
  silence : Option Timer
  deriving DecidableEq, Repr

inductive Channel where
  | ia
  | ib
  | ic
  | pnet
  deriving DecidableEq, Repr

/-- A channel record (Table 4-3). -/
structure ChannelRecord where
  code : Code
  value : Int
  present : Bool
  overRange : Bool
  deriving DecidableEq, Repr

/-- The Feeder Analog Monitor: its channel records, the channels the present conversion set has still
to convert, in order, and the 20 ms timer of the sets (R73). -/
structure Analog where
  ia : ChannelRecord
  ib : ChannelRecord
  ic : ChannelRecord
  pnet : ChannelRecord
  converting : List Channel
  setTimer : Option Timer
  deriving DecidableEq, Repr

/-! ### Feeder Thermal Model -/

inductive Zone where
  | normal
  | warning
  | critical
  deriving DecidableEq, Repr

inductive Throttled where
  | up
  | down
  | both
  deriving DecidableEq, Repr

/-- The Feeder Thermal Model (Table 6-1). -/
structure Thermal where
  theta : Int
  zone : Zone
  lo : Int
  hi : Int
  crit : Int
  direction : Throttled
  factor : Nat
  timer : Option Timer
  deriving DecidableEq, Repr

/-! ### Dispatch Apportioner -/

/-- An entry of the list that a cycle computation answers (R79). -/
structure LevelEntry where
  id : Nat
  product : Product
  level : Int
  power : Int
  deriving DecidableEq, Repr

/-- A commitment of a dispatch result, its required power nonzero (R120). -/
structure Call where
  id : Nat
  product : Product
  power : Int
  deriving DecidableEq, Repr

/-- The dispatch result (R120): R, R′ and R″ and the commitments with nonzero required power. -/
structure DispatchResult where
  required : Int
  permitted : Int
  asked : Int
  calls : List Call
  deriving DecidableEq, Repr

/-- The Dispatch Apportioner (Table 7-1). -/
structure Apportioner where
  timer : Option Timer
  result : DispatchResult
  rotation : Nat
  deriving DecidableEq, Repr

/-! ### Fleet Link Controller -/

/-- The setpoint frame (Table 8-1); `setpoint` in units of 10 W. -/
structure SetpointFrame where
  address : Nat
  setpoint : Int
  participating : Bool
  restoring : Bool
  test : Bool
  episode : Bool
  deriving DecidableEq, Repr

/-- The visit in progress (Table 8-3); the reply timeout in ms. -/
structure Visit where
  address : Nat
  frame : SetpointFrame
  timeout : Nat
  removed : Bool
  buffer : List Byte
  deriving DecidableEq, Repr

/-- The phase of the controller with the timers each phase holds (8.3, R130, R135). -/
inductive LinkPhase where
  | sending
  | awaiting (timeout : Timer)
  | quiet (wait bound : Timer)
  | pacing
  deriving DecidableEq, Repr

/-- The Fleet Link Controller (Table 8-3) and its FBDE output. `roundTimer` is absent once expired. -/
structure Link where
  startIndex : Nat
  round : Nat
  position : Option Nat
  phase : LinkPhase
  roundTimer : Option Timer
  visit : Option Visit
  fbde : Bool
  deriving DecidableEq, Repr

/-! ### Delivery Monitor -/

/-- A contributor of an episode with its required-energy accumulator in 0.2 W·s (Table 9-2). -/
structure Contributor where
  id : Nat
  product : Product
  energy : Nat
  deriving DecidableEq, Repr

/-- The five accumulators of an episode, in 0.2 W·s (Table 9-2). -/
structure Accumulators where
  required : Nat
  permitted : Nat
  gridLimited : Nat
  delivered : Nat
  shortfall : Nat
  deriving DecidableEq, Repr

/-- The open episode (Table 9-2). -/
structure Episode where
  number : Nat
  openSlot : Nat
  openSecond : Nat
  energies : Accumulators
  peak : Nat
  contributors : List Contributor
  overflow : Bool
  shortCycles : Nat
  delivered : Int
  previous : Nat
  grace : Nat
  shortRun : Nat
  reported : Bool
  quiet : Nat
  lastRequired : Int
  lastPermitted : Int
  lastAsked : Int
  deriving DecidableEq, Repr

inductive EpisodeOutcome where
  | met
  | short
  deriving DecidableEq, Repr

/-- An episode record of the log (Table 9-3), its energies in Wh. -/
structure EpisodeRecord where
  number : Nat
  openSlot : Nat
  openSecond : Nat
  closeSlot : Nat
  closeSecond : Nat
  contributors : List Contributor
  overflow : Bool
  peak : Nat
  energies : Accumulators
  shortCycles : Nat
  outcome : EpisodeOutcome
  gridLimited : Bool
  deriving DecidableEq, Repr

/-- The Delivery Monitor (Table 9-1). `nextNumber` is absent once exhausted (R140). -/
structure Delivery where
  episode : Option Episode
  log : List EpisodeRecord
  nextNumber : Option Nat
  deriving DecidableEq, Repr

/-! ### Ports -/

/-- The notice kinds (10.4). -/
inductive Notice where
  | book
  | risk
  | episodeOpen
  | episodeClosed
  | shortfall
  | freq
  | thermal
  | levelLost
  | clock
  | unit
  | test
  | store
  deriving DecidableEq, Repr

/-- The request kinds of Table 10-1. -/
inductive RequestKind where
  | award
  | withdraw
  | release
  | bookOpen
  | bookNext
  | timeSync
  | level
  | freq
  | planRead
  | availRead
  | enrol
  | retire
  | unitMode
  | unitTest
  | unitRead
  | logOpen
  | logNext
  | deliveryRead
  | paramSet
  | paramRead
  | paramDescribe
  | profileSave
  | profileLoad
  | profileStartup
  | noticeRead
  | noticeMask
  | statusRead
  | restart
  deriving DecidableEq, Repr

/-- The reasons of 10.2; `clear` is the spec's NONE. -/
inductive Reason where
  | clear
  | badField
  | notFound
  | wrongState
  | inUse
  | testRunning
  | notOpen
  | backward
  | noTime
  | order
  | storeInvalid
  | notOnPort
  | unknown
  | tooLate
  | beyondHorizon
  | full
  | noHeadroom
  deriving DecidableEq, Repr

inductive ReplyOutcome where
  | done
  | busy
  | refused
  deriving DecidableEq, Repr

/-- A reply (R156): the kind and tag echoed, the outcome, the reason and the body bytes. -/
structure Reply where
  kind : Byte
  tag : Byte
  outcome : ReplyOutcome
  reason : Reason
  body : List Byte
  deriving DecidableEq, Repr

/-- The receiver of a port (R154). HUNTING remembers whether the last byte was 0xC3, and RECEIVING
holds the bytes gathered after the start pair and the 50 ms silence wait. -/
inductive Receiver where
  | hunting (first : Bool)
  | receiving (bytes : List Byte) (silence : Timer)
  deriving DecidableEq, Repr

/-- The request in service (10, state table). -/
structure Service where
  kind : RequestKind
  tag : Byte
  deriving DecidableEq, Repr

/-- The state of a port (chapter 10): its receiver, the request in service, the transmitter with the
reply being sent and the replies waiting behind it, its cursors, its pending set, the owed pulses, its
attention line, and whether the low time after a pulse is still running (R165). -/
structure PortState where
  receiver : Receiver
  service : Option Service
  sending : Option Reply
  waiting : List Reply
  bookCursor : Cursor Key
  logCursor : Cursor Nat
  notices : NoticeSet
  owed : Nat
  line : Bool
  gap : Bool
  deriving DecidableEq, Repr

/-! ### Profile Store -/

/-- The parameter set of a profile (Table 11-2): parameter 0x01 at index 0, and so on in id order. -/
structure Profile where
  values : Vector Int 42
  deriving DecidableEq, Repr

inductive ProfileSlot where
  | factory
  | one
  | two
  deriving DecidableEq, Repr

/-- Slot 1 or slot 2 of the store; `valid` says that its check word matches (R167). -/
structure StoredProfile where
  profile : Profile
  enrolment : List EnrolEntry
  valid : Bool
  deriving DecidableEq, Repr

/-- The startup selector; `valid` says that its check word matches (R167). -/
structure Selector where
  slot : ProfileSlot
  valid : Bool
  deriving DecidableEq, Repr

/-- A store write in progress: an image for slot 1 or 2 (`second` false or true), or the selector. -/
inductive StoreWrite where
  | image (second : Bool) (profile : Profile) (enrolment : List EnrolEntry)
  | selector (slot : ProfileSlot)
  deriving DecidableEq, Repr

/-- The non-volatile part of the Profile Store and its write in progress (Table 11-1). -/
structure Store where
  slot1 : StoredProfile
  slot2 : StoredProfile
  selector : Selector
  write : Option StoreWrite
  deriving DecidableEq, Repr

end Sys2Proof.Machine
end

