-- ==== Sys2Proof/Machine/Arith.lean ====
section
/-! DEFINITION. The rounding words of section 6 of the scope file, byte order (R166), and the CRC-16
(R154). -/

namespace Sys2Proof.Machine

/-- floor10 of a magnitude: truncation to a multiple of 10 W. -/
def floor10 (n : Nat) : Nat := n / 10 * 10

/-- floor10 of a signed power: truncation toward zero to a multiple of 10 W. -/
def trunc10 (x : Int) : Int := x.tdiv 10 * 10

/-- ceil of a quotient of magnitudes. -/
def ceilDiv (a b : Nat) : Nat := (a + b - 1) / b

/-- clamp(x, a, b): a if x < a, b if x > b, otherwise x. -/
def clamp (x a b : Int) : Int := if x < a then a else if b < x then b else x

/-- Addition that holds at a maximum. -/
def satAdd (limit a b : Nat) : Nat := min limit (a + b)

/-- The greatest 32-bit value, also the last slot number (R1). -/
def maxWord : Nat := 4294967295

/-- The maximum of a 64-bit accumulator (Table 9-2). -/
def maxLong : Nat := 18446744073709551615

/-! ### Device time -/

/-- Milliseconds in counts of the 10 MHz crystal. -/
def msCounts (n : Nat) : Nat := n * 10000

/-- Seconds in counts of the 10 MHz crystal. -/
def secCounts (n : Nat) : Nat := n * 10000000

/-! ### Sides -/

def Sides.zero : Sides := ⟨0, 0⟩

def Sides.get (x : Sides) : Side → Nat
  | .up => x.up
  | .down => x.down

def Sides.add (x y : Sides) : Sides := ⟨x.up + y.up, x.down + y.down⟩

def Sides.sub (x y : Sides) : Sides := ⟨x.up - y.up, x.down - y.down⟩

def Sides.min (x y : Sides) : Sides := ⟨Nat.min x.up y.up, Nat.min x.down y.down⟩

def Sides.map (f : Nat → Nat) (x : Sides) : Sides := ⟨f x.up, f x.down⟩

/-- The sum of a list of magnitudes, side by side. -/
def Sides.sum (l : List Sides) : Sides := l.foldr Sides.add Sides.zero

/-! ### Byte order -/

/-- The `n` low bytes of a number, most significant byte first (R166). -/
def be : Nat → Nat → List Byte
  | 0, _ => []
  | n + 1, v => BitVec.ofNat 8 (v / 256 ^ n) :: be n v

/-- A signed number in `n` bytes, two's complement, most significant byte first (R166). -/
def beInt (n : Nat) (x : Int) : List Byte := be n (x % (256 ^ n : Nat)).toNat

/-- An energy in a 4-byte field: one too large is sent as 4,294,967,295 (R166). -/
def beEnergy (v : Nat) : List Byte := be 4 (min v maxWord)

/-- A flag as one byte: 1 when set, 0 when clear (R166). -/
def beFlag (b : Bool) : List Byte := [if b then 1 else 0]

/-- The number some bytes carry, most significant byte first (R166). -/
def readBytes (bytes : List Byte) : Nat := bytes.foldl (fun acc b => acc * 256 + b.toNat) 0

/-- The number in the `n` bytes of a body that begin at `at_`. -/
def field (body : List Byte) (at_ n : Nat) : Nat := readBytes ((body.drop at_).take n)

/-- The signed number, two's complement, in the `n` bytes of a body that begin at `at_`. -/
def fieldInt (body : List Byte) (at_ n : Nat) : Int :=
  let v := field body at_ n
  if 256 ^ n ≤ 2 * v then (v : Int) - (256 ^ n : Nat) else v

/-! ### The check -/

/-- One bit of the CRC-16 with polynomial 0x1021, most significant bit first (R154). -/
def crcBit (c : Check) : Check := if c.msb then (c <<< 1) ^^^ 0x1021#16 else c <<< 1

/-- One byte of the CRC-16 (R154). -/
def crcByte (c : Check) (b : Byte) : Check :=
  let c0 := c ^^^ (b.setWidth 16 <<< 8)
  crcBit (crcBit (crcBit (crcBit (crcBit (crcBit (crcBit (crcBit c0)))))))

/-- The CRC-16 of a byte string: initial value 0xFFFF, no reflection, no final XOR (R154). -/
def crc16 (bytes : List Byte) : Check := bytes.foldl crcByte 0xFFFF#16

/-- The check bytes as sent, high byte first (R166). -/
def crcBytes (bytes : List Byte) : List Byte := be 2 (crc16 bytes).toNat

end Sys2Proof.Machine
end

