-- ==== Sys2Proof/Machine/Params.lean ====
section
/-! DEFINITION. The parameters of the working profile (Table 11-2): ids, ranges, defaults. -/

namespace Sys2Proof.Machine

/-- The parameters of Table 11-2, in id order. -/
inductive ParamId where
  | deadband | fullDeviation | enduranceUp | enduranceDown
  | trigDeviation | trigSupport | trigRamp | trigLockout
  | setpEndurance | setpRamp
  | margin | dispatchEndurance | technicalFloor | ceilingMargin
  | restorationTarget | restorationTime | restoration
  | replyTimeout | staleLimit | lostLimit
  | gMin | testDuration | testFraction
  | ratedCurrent | currentScale | powerScale | ratedRise | timeConstant | ambient
  | thetaLo | thetaHi | thetaCrit | throttle
  | tolerance | toleranceFloor | shortRunLimit | quietPeriod
  | channelEnables | marketAttention | operatorAttention | marketEnables | operatorEnables
  deriving DecidableEq, Repr

/-- What values a parameter holds: a numeric range, an attention mode, or a set given by the number
whose bits are the members it can hold. -/
inductive ParamRange where
  | numeric (lo hi : Int)
  | mode
  | members (mask : Nat)
  deriving DecidableEq, Repr

/-- The id of a parameter (Table 11-2). -/
def ParamId.code : ParamId → Nat
  | .deadband => 0x01 | .fullDeviation => 0x02 | .enduranceUp => 0x03 | .enduranceDown => 0x04
  | .trigDeviation => 0x05 | .trigSupport => 0x06 | .trigRamp => 0x07 | .trigLockout => 0x08
  | .setpEndurance => 0x09 | .setpRamp => 0x0A
  | .margin => 0x0B | .dispatchEndurance => 0x0C | .technicalFloor => 0x0D
  | .ceilingMargin => 0x0E
  | .restorationTarget => 0x0F | .restorationTime => 0x10 | .restoration => 0x11
  | .replyTimeout => 0x12 | .staleLimit => 0x13 | .lostLimit => 0x14
  | .gMin => 0x15 | .testDuration => 0x16 | .testFraction => 0x17
  | .ratedCurrent => 0x18 | .currentScale => 0x19 | .powerScale => 0x1A | .ratedRise => 0x1B
  | .timeConstant => 0x1C | .ambient => 0x1D
  | .thetaLo => 0x1E | .thetaHi => 0x1F | .thetaCrit => 0x20 | .throttle => 0x21
  | .tolerance => 0x22 | .toleranceFloor => 0x23 | .shortRunLimit => 0x24 | .quietPeriod => 0x25
  | .channelEnables => 0x26 | .marketAttention => 0x27 | .operatorAttention => 0x28
  | .marketEnables => 0x29 | .operatorEnables => 0x2A

/-- Every parameter, in id order. -/
def ParamId.all : List ParamId :=
  [.deadband, .fullDeviation, .enduranceUp, .enduranceDown,
   .trigDeviation, .trigSupport, .trigRamp, .trigLockout, .setpEndurance, .setpRamp,
   .margin, .dispatchEndurance, .technicalFloor, .ceilingMargin,
   .restorationTarget, .restorationTime, .restoration, .replyTimeout, .staleLimit, .lostLimit,
   .gMin, .testDuration, .testFraction,
   .ratedCurrent, .currentScale, .powerScale, .ratedRise, .timeConstant, .ambient,
   .thetaLo, .thetaHi, .thetaCrit, .throttle,
   .tolerance, .toleranceFloor, .shortRunLimit, .quietPeriod,
   .channelEnables, .marketAttention, .operatorAttention, .marketEnables, .operatorEnables]

/-- The parameter of an id, absent for an id not in Table 11-2. -/
def ParamId.ofCode (code : Nat) : Option ParamId := ParamId.all.find? fun i => i.code == code

/-- The place of a parameter in a profile. -/
def ParamId.index (i : ParamId) : Fin 42 := Fin.ofNat 42 (i.code - 1)

/-- The range column of Table 11-2. -/
def ParamId.range : ParamId → ParamRange
  | .deadband => .numeric 0 200
  | .fullDeviation => .numeric 50 1000
  | .enduranceUp => .numeric 15 120
  | .enduranceDown => .numeric 15 120
  | .trigDeviation => .numeric 100 1000
  | .trigSupport => .numeric 2 60
  | .trigRamp => .numeric 0 30
  | .trigLockout => .numeric 0 900
  | .setpEndurance => .numeric 15 240
  | .setpRamp => .numeric 1 300
  | .margin => .numeric 2048 4096
  | .dispatchEndurance => .numeric 1 60
  | .technicalFloor => .numeric 0 30
  | .ceilingMargin => .numeric 0 30
  | .restorationTarget => .numeric 20 80
  | .restorationTime => .numeric 10 240
  | .restoration => .numeric 0 50
  | .replyTimeout => .numeric 2 20
  | .staleLimit => .numeric 2 10
  | .lostLimit => .numeric 10 100
  | .gMin => .numeric 0 4096
  | .testDuration => .numeric 10 120
  | .testFraction => .numeric 10 100
  | .ratedCurrent => .numeric 10 2000
  | .currentScale => .numeric 10 4000
  | .powerScale => .numeric 50000 5000000
  | .ratedRise => .numeric 10000 100000
  | .timeConstant => .numeric 60 7200
  | .ambient => .numeric (-20000) 50000
  | .thetaLo => .numeric 30000 180000
  | .thetaHi => .numeric 30000 180000
  | .thetaCrit => .numeric 30000 180000
  | .throttle => .numeric 0 4096
  | .tolerance => .numeric 0 1024
  | .toleranceFloor => .numeric 0 10000
  | .shortRunLimit => .numeric 5 250
  | .quietPeriod => .numeric 1 120
  | .channelEnables => .members 0xF
  | .marketAttention => .mode
  | .operatorAttention => .mode
  | .marketEnables => .members 0xFFF
  | .operatorEnables => .members 0x1FF

/-- The default column of Table 11-2. -/
def ParamId.default : ParamId → Int
  | .deadband => 10
  | .fullDeviation => 200
  | .enduranceUp => 30
  | .enduranceDown => 30
  | .trigDeviation => 300
  | .trigSupport => 30
  | .trigRamp => 10
  | .trigLockout => 60
  | .setpEndurance => 60
  | .setpRamp => 30
  | .margin => 3686
  | .dispatchEndurance => 15
  | .technicalFloor => 10
  | .ceilingMargin => 5
  | .restorationTarget => 50
  | .restorationTime => 60
  | .restoration => 20
  | .replyTimeout => 5
  | .staleLimit => 3
  | .lostLimit => 25
  | .gMin => 2867
  | .testDuration => 30
  | .testFraction => 50
  | .ratedCurrent => 400
  | .currentScale => 800
  | .powerScale => 500000
  | .ratedRise => 60000
  | .timeConstant => 1800
  | .ambient => 20000
  | .thetaLo => 85000
  | .thetaHi => 95000
  | .thetaCrit => 110000
  | .throttle => 2048
  | .tolerance => 410
  | .toleranceFloor => 500
  | .shortRunLimit => 25
  | .quietPeriod => 10
  | .channelEnables => 0xF
  | .marketAttention => 0
  | .operatorAttention => 0
  | .marketEnables => 0xFFF
  | .operatorEnables => 0x1FF

/-- The parameter's value in the profile. -/
def Profile.get (p : Profile) (i : ParamId) : Int := p.values[i.index]

/-- The profile with one parameter replaced. -/
def Profile.put (p : Profile) (i : ParamId) (v : Int) : Profile := ⟨p.values.set i.index v⟩

/-- The value of a parameter whose range holds no negative value. -/
def Profile.nat (p : Profile) (i : ParamId) : Nat := (p.get i).toNat

/-- The parameter set of slot FACTORY: the defaults of Table 11-2 (R167). -/
def Profile.factory : Profile := ⟨.mk (Array.mk (ParamId.all.map ParamId.default)) rfl⟩

/-- A number lies in a numeric parameter's range. -/
def ParamId.admits (i : ParamId) (v : Nat) : Bool :=
  match i.range with
  | .numeric lo hi => decide (lo ≤ v ∧ (v : Int) ≤ hi)
  | .mode => decide (v ≤ 1)
  | .members mask => v &&& mask == v

end Sys2Proof.Machine
end

