-- ==== Sys2Proof/Machine/Resets.lean ====
section
/-! DEFINITION. What each block holds right after a reset, before the first event that follows it. -/

namespace Sys2Proof.Machine

/-- The Slot Clock after a reset (1.1, R20). -/
def Clock.initial : Clock := ⟨false, 0, 0, 0⟩

/-- The Commitment Book after a reset (R5, R20). -/
def Book.initial : Book := ⟨[], some 1, 0⟩

/-- A planning row that stands for no slot (R45). -/
def PlanRow.blank : PlanRow := ⟨none, Sides.zero, Sides.zero, Sides.zero, Sides.zero⟩

/-- The planning array and horizon row after a reset (R45, R59). -/
def Plan.initial : Plan := ⟨List.replicate 192 PlanRow.blank, some PlanRow.blank⟩

/-- The live availability record after a reset: every figure 0 and no stamp (R59). -/
def Availability.initial : Availability :=
  ⟨none, 0, Sides.zero, Sides.zero, 0, Sides.zero, Sides.zero, 0, Sides.zero, 0⟩

/-- The Line Frequency Meter after a reset, by the FSRC strap (Table 4-1, R69, R72). Table 4-1 says that the
capture counter runs from the reset and gives no value for it there; that it starts at 0, and with it the
start point of the loss compare armed from the reset, is the model's choice (log entry 24). -/
def Meter.initial (relayed : Bool) : Meter :=
  if relayed then ⟨0, none, [], 0, .lost, none, none, none⟩
  else ⟨0, none, [], 0, .acquiring, none, some 0, none⟩

/-- A channel record after a reset, or of a channel that is ABSENT (Table 4-3, R73). -/
def ChannelRecord.absent : ChannelRecord := ⟨0, 0, false, false⟩

/-- The channels of an enable set, in conversion order (R73). -/
def enabledChannels (p : Profile) : List Channel :=
  let enabled := p.nat .channelEnables
  (if enabled.testBit 0 then [Channel.ia] else []) ++ (if enabled.testBit 1 then [Channel.ib] else [])
    ++ (if enabled.testBit 2 then [Channel.ic] else [])
    ++ (if enabled.testBit 3 then [Channel.pnet] else [])

/-- The Feeder Analog Monitor at the end of a reset: the first conversion set starts (R73, R77). -/
def Analog.initial (p : Profile) : Analog :=
  ⟨.absent, .absent, .absent, .absent, enabledChannels p, some ⟨0, msCounts 20⟩⟩

/-- The Feeder Thermal Model at the end of a reset (Table 6-1, R106). -/
def Thermal.initial (p : Profile) : Thermal :=
  ⟨p.get .ambient, .normal, p.get .thetaLo, p.get .thetaHi, p.get .thetaCrit, .both,
    p.nat .throttle, some ⟨0, secCounts 1⟩⟩

/-- The Product Level Unit after a reset (Table 5-1, R95). -/
def LevelUnit.initial : LevelUnit := ⟨255, 0, .expired, none⟩

/-- The Dispatch Apportioner at the end of a reset (Table 7-1, R107). -/
def Apportioner.initial : Apportioner := ⟨some ⟨0, msCounts 200⟩, ⟨0, 0, 0, []⟩, 1⟩

/-- The Fleet Link Controller at the end of a reset, as an empty round 0 begins (Table 8-3, R125). -/
def Link.initial : Link := ⟨1, 0, none, .pacing, some ⟨0, msCounts 200⟩, none, false⟩

/-- The Delivery Monitor after a reset (Table 9-1, R138). -/
def Delivery.initial : Delivery := ⟨none, [], some 1⟩

/-- A port after a reset, before CLOCK enters its pending set (chapter 10, R157, R165). -/
def PortState.initial : PortState :=
  ⟨.hunting false, none, none, [], .closed, .closed, 0, 0, false, false⟩

/-- A unit record as enrolled or as built from an enrolment list (R23, R38). -/
def UnitRecord.enrolled (mode : EnrolMode) (g : Nat) : UnitRecord where
  link := .joining
  misses := 0
  mode := .plain mode
  g := g
  bars := ⟨false, false, false⟩
  report := none
  holds := []
  live := Sides.zero
  participation := 0
  restoration := 0
  setpoint := 0
  baseline := none
  lastTest := none

/-- The Fleet Table an enrolment list builds (R38). -/
def Fleet.ofEnrolment (list : List EnrolEntry) : Fleet :=
  list.map fun e => (e.address, UnitRecord.enrolled e.mode e.g)

/-- The store as it leaves manufacture: both slots hold FACTORY's contents with matching check words,
and the selector holds FACTORY (R167). -/
def Store.manufactured : Store :=
  ⟨⟨.factory, [], true⟩, ⟨.factory, [], true⟩, ⟨.factory, true⟩, none⟩

end Sys2Proof.Machine
end

