-- ==== Sys2Proof/Machine/State.lean ====
section
/-! DEFINITION. The whole state of the part, the reasons a step can stop, and the state after reset. -/

namespace Sys2Proof.Machine

/-- Why the part would stop with a fault. The spec names no event that stops the part: a bad request
is refused in its reply (R155), a bad frame is discarded (R154) or fails its visit (R131). So there is
no constructor. -/
inductive Fault where
  deriving DecidableEq, Repr

/-- Why a command has no meaning in the model. -/
inductive Refusal where
  /-- Raised by `exec` for a row without a meaning (safe: nothing is claimed of it). No row is left so. -/
  | notModelled (mnemonic : String)
  deriving DecidableEq, Repr

/-- The state of the Sidetra 4820: every block of Table 1, its supply, its RESET pin, its straps, its
device time, and the queue of commands that wait. -/
structure State where
  /-- The supply is present (R171, R172). -/
  powered : Bool
  /-- The RESET pin is held low (R172). -/
  resetLow : Bool
  /-- The straps sampled at the last power-on (R171). -/
  straps : Straps
  /-- Device time since the reset, in crystal counts of 100 ns. -/
  time : Nat
  clock : Clock
  book : Book
  fleet : Fleet
  plan : Plan
  avail : Availability
  /-- The ids of the marked commitments (R55). -/
  marked : List Nat
  meter : Meter
  analog : Analog
  thermal : Thermal
  levels : LevelUnit
  apportioner : Apportioner
  link : Link
  delivery : Delivery
  market : PortState
  operator : PortState
  /-- The working profile (Table 11-1). -/
  profile : Profile
  store : Store
  /-- The commands that wait, first in, first out. -/
  pending : List Instr
  deriving DecidableEq, Repr

/-- A port right after a reset under the default profile: {CLOCK} is pending, CLOCK is enabled and
the mode is LEVEL, so the attention line is high (R157, R164). -/
def PortState.afterReset : PortState := { PortState.initial with notices := 0x100#12, line := true }

/-- The part right after a power-on with both straps low and the store as manufactured: FACTORY is
loaded, the Fleet Table is empty and the empty round 0 is pacing (R171; log entry 6). -/
def State.reset : State where
  powered := true
  resetLow := false
  straps := ⟨false, false⟩
  time := 0
  clock := .initial
  book := .initial
  fleet := []
  plan := .initial
  avail := .initial
  marked := []
  meter := .initial false
  analog := .initial .factory
  thermal := .initial .factory
  levels := .initial
  apportioner := .initial
  link := .initial
  delivery := .initial
  market := .afterReset
  operator := .afterReset
  profile := .factory
  store := .manufactured
  pending := []

end Sys2Proof.Machine
end

