-- ==== Sys2Proof/Machine/Flags.lean ====
section
/-! DEFINITION. The notices and the attention lines: pending sets, enable sets, LEVEL and PULSE mode
(10.4). -/

namespace Sys2Proof.Machine

/-- The bit of a notice kind (R166). -/
def Notice.bit : Notice → Nat
  | .book => 0
  | .risk => 1
  | .episodeOpen => 2
  | .episodeClosed => 3
  | .shortfall => 4
  | .freq => 5
  | .thermal => 6
  | .levelLost => 7
  | .clock => 8
  | .unit => 9
  | .test => 10
  | .store => 11

/-- The set of one notice kind. -/
def Notice.mask (k : Notice) : NoticeSet := BitVec.twoPow 12 k.bit

/-- A set of notice kinds holds a kind. -/
def hasNotice (set : NoticeSet) (k : Notice) : Bool := set.getLsbD k.bit

/-- The kinds a port carries (10.4): the Operator Port has no UNIT, TEST and STORE. -/
def carriedNotices : Port → NoticeSet
  | .market => 0xFFF#12
  | .operator => 0x1FF#12

/-- The state of a port. -/
def State.port (s : State) : Port → PortState
  | .market => s.market
  | .operator => s.operator

/-- Replace the state of a port. -/
def State.setPort (s : State) (port : Port) (x : PortState) : State :=
  match port with
  | .market => { s with market := x }
  | .operator => { s with operator := x }

/-- The parameter that holds a port's enable set (Table 11-2). -/
def enableParam : Port → ParamId
  | .market => .marketEnables
  | .operator => .operatorEnables

/-- The parameter that holds a port's attention mode (Table 11-2). -/
def attentionParam : Port → ParamId
  | .market => .marketAttention
  | .operator => .operatorAttention

/-- A port's enable set in a profile. -/
def Profile.enables (p : Profile) (port : Port) : NoticeSet := BitVec.ofInt 12 (p.get (enableParam port))

/-- A port's attention mode in a profile is PULSE (otherwise LEVEL). -/
def Profile.pulseMode (p : Profile) (port : Port) : Bool := p.get (attentionParam port) == 1

/-- LEVEL mode: the line is high while a pending kind is enabled (R164). -/
def PortState.judgeLevel (x : PortState) (enables : NoticeSet) : PortState :=
  { x with line := x.notices &&& enables != 0 }

/-- One more owed pulse, up to 15 (R165). At rest the pulse begins at once, and a pulse that begins
leaves the count of pulses still to be given (log entry 8). -/
def PortState.owePulse (x : PortState) : PortState :=
  if x.line || x.gap then { x with owed := min 15 (x.owed + 1) } else { x with line := true }

/-- A posting of a kind the port carries (R161): a kind already pending changes nothing; otherwise the
kind becomes pending and the port judges its attention line (R164, R165). -/
def PortState.post (x : PortState) (pulse : Bool) (enables : NoticeSet) (k : Notice) : PortState :=
  if hasNotice x.notices k then x
  else
    let x1 := { x with notices := x.notices ||| k.mask }
    if pulse then if hasNotice enables k then x1.owePulse else x1
    else x1.judgeLevel enables

/-- Post a notice kind to one port; a port that does not carry the kind takes no posting (10.4). -/
def State.postOn (s : State) (port : Port) (k : Notice) : State :=
  if hasNotice (carriedNotices port) k then
    s.setPort port ((s.port port).post (s.profile.pulseMode port) (s.profile.enables port) k)
  else s

/-- Post a notice kind to the ports that carry it (10.4). -/
def State.post (s : State) (k : Notice) : State := (s.postOn .market k).postOn .operator k

/-- Post a notice kind when a condition holds. -/
def State.postIf (s : State) (c : Bool) (k : Notice) : State := if c then s.post k else s

/-- The judgement of a port after its enable set or attention mode may have changed (R163 to R165):
into PULSE the line goes low and nothing is owed; into LEVEL any pulse ends and the line is judged; an
unchanged LEVEL mode judges the line; an unchanged PULSE mode gives no pulse. -/
def PortState.rejudge (x : PortState) (oldPulse newPulse : Bool) (enables : NoticeSet) : PortState :=
  if newPulse then
    if oldPulse then x else { x with line := false, gap := false, owed := 0 }
  else { x with gap := false, owed := 0 }.judgeLevel enables

/-- Put a profile in force and let both ports judge their attention lines at once (R159, R170). -/
def State.putProfile (s : State) (p : Profile) : State :=
  { s with
    profile := p
    market := s.market.rejudge (s.profile.pulseMode .market) (p.pulseMode .market) (p.enables .market)
    operator := s.operator.rejudge (s.profile.pulseMode .operator) (p.pulseMode .operator)
      (p.enables .operator) }

/-- The end of the 1 ms high time of a pulse, or of the low time after it (R165). -/
def PortState.pulseTimer (x : PortState) : PortState :=
  if x.line then { x with line := false, gap := true }
  else if x.gap then
    if x.owed = 0 then { x with gap := false }
    else { x with line := true, gap := false, owed := x.owed - 1 }
  else x

end Sys2Proof.Machine
end

