-- ==== Sys2Proof/Machine/Operands.lean ====
section
/-! DEFINITION. The operand forms: request kinds and codes (Table 10-1), the fields of request bodies
(Tables 10-3 and 10-4), the fields of report frames (Table 10-5), and the codes of R166. -/

namespace Sys2Proof.Machine

/-! ### Request kinds -/

/-- The code of a request kind (Table 10-1). -/
def RequestKind.code : RequestKind → Byte
  | .award => 0x01#8
  | .withdraw => 0x02#8
  | .release => 0x03#8
  | .bookOpen => 0x04#8
  | .bookNext => 0x05#8
  | .timeSync => 0x06#8
  | .level => 0x07#8
  | .freq => 0x08#8
  | .planRead => 0x09#8
  | .availRead => 0x0A#8
  | .enrol => 0x0B#8
  | .retire => 0x0C#8
  | .unitMode => 0x0D#8
  | .unitTest => 0x0E#8
  | .unitRead => 0x0F#8
  | .logOpen => 0x10#8
  | .logNext => 0x11#8
  | .deliveryRead => 0x12#8
  | .paramSet => 0x13#8
  | .paramRead => 0x14#8
  | .paramDescribe => 0x15#8
  | .profileSave => 0x16#8
  | .profileLoad => 0x17#8
  | .profileStartup => 0x18#8
  | .noticeRead => 0x19#8
  | .noticeMask => 0x1A#8
  | .statusRead => 0x1B#8
  | .restart => 0x1C#8

/-- Every request kind, in code order. -/
def RequestKind.all : List RequestKind :=
  [.award, .withdraw, .release, .bookOpen, .bookNext, .timeSync, .level, .freq, .planRead,
   .availRead, .enrol, .retire, .unitMode, .unitTest, .unitRead, .logOpen, .logNext,
   .deliveryRead, .paramSet, .paramRead, .paramDescribe, .profileSave, .profileLoad,
   .profileStartup, .noticeRead, .noticeMask, .statusRead, .restart]

/-- The kind of a code, absent for a code not in Table 10-1. -/
def RequestKind.ofCode (code : Byte) : Option RequestKind :=
  RequestKind.all.find? fun k => k.code == code

/-- Table 10-1's port columns; `relayed` is the FSRC strap (FREQ on the Operator Port). -/
def RequestKind.permitted (relayed : Bool) (port : Port) : RequestKind → Bool
  | .award | .withdraw | .planRead | .enrol | .retire | .unitMode | .unitTest | .unitRead
  | .paramSet | .profileSave | .profileLoad | .profileStartup | .restart => port == .market
  | .release | .timeSync | .level | .deliveryRead => port == .operator
  | .freq => port == .operator && relayed
  | .bookOpen | .bookNext | .availRead | .logOpen | .logNext | .paramRead | .paramDescribe
  | .noticeRead | .noticeMask | .statusRead => true

/-- The body length each kind requires (Table 10-3); AWARD's follows its count byte (R155). -/
def RequestKind.bodyLength (body : List Byte) : RequestKind → Nat
  | .award => 1 + 28 * field body 0 1
  | .withdraw | .release => 2
  | .timeSync => 6
  | .level | .freq => 4
  | .planRead => 5
  | .enrol => 13
  | .retire | .unitTest | .unitRead => 1
  | .unitMode => 11
  | .paramSet => 5
  | .paramRead | .paramDescribe => 1
  | .profileSave | .profileLoad | .profileStartup => 1
  | .noticeMask => 4
  | .bookOpen | .bookNext | .availRead | .logOpen | .logNext | .deliveryRead | .noticeRead
  | .statusRead | .restart => 0

/-! ### Codes of R166 -/

def Reason.code : Reason → Byte
  | .clear => 0x00#8
  | .badField => 0x01#8
  | .notFound => 0x02#8
  | .wrongState => 0x03#8
  | .inUse => 0x04#8
  | .testRunning => 0x05#8
  | .notOpen => 0x06#8
  | .backward => 0x07#8
  | .noTime => 0x08#8
  | .order => 0x09#8
  | .storeInvalid => 0x0A#8
  | .notOnPort => 0x0B#8
  | .unknown => 0x0C#8
  | .tooLate => 0x0D#8
  | .beyondHorizon => 0x0E#8
  | .full => 0x0F#8
  | .noHeadroom => 0x10#8

def ReplyOutcome.code : ReplyOutcome → Byte
  | .done => 0#8
  | .busy => 1#8
  | .refused => 2#8

/-- Products (Table 10-4). -/
def Product.code : Product → Nat
  | .prop => 1
  | .trig => 2
  | .setp => 3

def Product.ofCode : Nat → Option Product
  | 1 => some .prop
  | 2 => some .trig
  | 3 => some .setp
  | _ => none

def Side.code : Side → Nat
  | .up => 1
  | .down => 2

def Mark.code : Mark → Nat
  | .clear => 0
  | .planning => 1
  | .live => 2

def LinkState.code : LinkState → Nat
  | .joining => 0
  | .live => 1
  | .stale => 2
  | .lost => 3

def MeterState.code : MeterState → Nat
  | .acquiring => 0
  | .valid => 1
  | .invalid => 2
  | .lost => 3

def Zone.code : Zone → Nat
  | .normal => 0
  | .warning => 1
  | .critical => 2

def Throttled.code : Throttled → Nat
  | .up => 0
  | .down => 1
  | .both => 2

def EpisodeOutcome.code : EpisodeOutcome → Nat
  | .met => 0
  | .short => 1

def TestOutcome.code : TestOutcome → Nat
  | .passed _ => 0
  | .low _ => 1
  | .aborted => 2

def EnrolMode.code : EnrolMode → Nat
  | .off => 0
  | .auto => 1
  | .manual _ => 2

def Mode.code : Mode → Nat
  | .plain m => m.code
  | .test _ => 3

/-- FAULT bit 0, OPT_OUT bit 1, LOW_RESPONSE bit 2. -/
def BarReasons.code (b : BarReasons) : Nat :=
  b.fault.toNat + 2 * b.optOut.toNat + 4 * b.lowResponse.toNat

def HoldKind.code : HoldKind → Nat
  | .withdraw => 1
  | .floor _ => 2

/-! ### Request bodies -/

/-- An address field in 1..240 (R21). -/
def addressOf (body : List Byte) : Option Nat :=
  let a := field body 0 1
  if 1 ≤ a ∧ a ≤ 240 then some a else none

/-- The greatest declared headroom, W (R23). -/
def declaredLimit : Nat := 655350

/-- The mode and declared headroom that ENROL and UNIT-MODE carry (R23, R25): none when the mode is
not OFF, AUTO or MANUAL, when MANUAL comes without a declared headroom, or when a declared value is
above 655,350 W. The value is floored to multiples of 10 and disregarded for OFF and AUTO. -/
def enrolMode (code : Nat) (carried : Bool) (declared : Sides) : Option EnrolMode :=
  if carried && (decide (declaredLimit < declared.up) || decide (declaredLimit < declared.down)) then
    none
  else
    match code with
    | 0 => some .off
    | 1 => some .auto
    | 2 => if carried then some (.manual (declared.map floor10)) else none
    | _ => none

/-- The profile slot a request names: 0 FACTORY, 1 or 2 (R169, R170). -/
def ProfileSlot.ofCode : Nat → Option ProfileSlot
  | 0 => some .factory
  | 1 => some .one
  | 2 => some .two
  | _ => none

/-- An award record as carried (Table 10-4). -/
structure AwardRecord where
  marketRef : Nat
  product : Nat
  start : Nat
  stop : Nat
  capacity : Sides
  presence : Byte
  params : List Byte
  deriving DecidableEq, Repr

/-- The award record in 28 bytes (Table 10-4). -/
def AwardRecord.ofBytes (b : List Byte) : AwardRecord where
  marketRef := field b 0 4
  product := field b 4 1
  start := field b 5 4
  stop := field b 9 4
  capacity := ⟨field b 13 4, field b 17 4⟩
  presence := BitVec.ofNat 8 (field b 21 1)
  params := (b.drop 22).take 6

/-- The award records of an AWARD body, in the order carried (R8). -/
def awardRecords (body : List Byte) : List AwardRecord :=
  (List.range (field body 0 1)).map fun i => AwardRecord.ofBytes ((body.drop (1 + 28 * i)).take 28)

/-- The value parameter number `bit` of an award record takes (R7, R9 check 4): as carried when its
presence bit is set and it lies in the range of Table 11-2, the profile's default when the bit is clear,
none when it is carried out of range. -/
def awardParam (p : Profile) (r : AwardRecord) (bit at_ n : Nat) (i : ParamId) : Option Nat :=
  if r.presence.getLsbD bit then
    if i.admits (field r.params at_ n) then some (field r.params at_ n) else none
  else some (p.nat i)

/-- The parameter snapshot of an award record (R7), none where check 4 of R9 fails on its product or
parameters: the product is unknown, a parameter carried is out of range, or PROP's full deviation does
not exceed its deadband. -/
def awardSnapshot (p : Profile) (r : AwardRecord) : Option Snapshot :=
  match Product.ofCode r.product with
  | none => none
  | some .prop =>
    match awardParam p r 0 0 2 .deadband, awardParam p r 1 2 2 .fullDeviation,
      awardParam p r 2 4 1 .enduranceUp, awardParam p r 3 5 1 .enduranceDown with
    | some db, some full, some eu, some ed => if db < full then some (.prop db full eu ed) else none
    | _, _, _, _ => none
  | some .trig =>
    match awardParam p r 0 0 2 .trigDeviation, awardParam p r 1 2 1 .trigSupport,
      awardParam p r 2 3 1 .trigRamp, awardParam p r 3 4 2 .trigLockout with
    | some td, some d, some rr, some l => some (.trig td d rr l)
    | _, _, _, _ => none
  | some .setp =>
    match awardParam p r 0 0 1 .setpEndurance, awardParam p r 1 1 2 .setpRamp with
    | some e, some ramp => some (.setp e ramp)
    | _, _ => none

/-- The product of a snapshot. -/
def Snapshot.product : Snapshot → Product
  | .prop _ _ _ _ => .prop
  | .trig _ _ _ _ => .trig
  | .setp _ _ => .setp

/-! ### Report frames -/

/-- A report as carried by a good report frame, its powers in W, its holds in report order
(Table 8-2). -/
structure CarriedReport where
  report : Report
  holds : List Hold
  deriving DecidableEq, Repr

/-- Why a visit failed (R133). The cause is not stored in any record. -/
inductive FailureCause where
  | timeout
  | badCheck
  | wrongAddress
  | malformed
  deriving DecidableEq, Repr

/-- The holds in the bytes after the hold count, which must be used up exactly: none for an unknown kind
or a length that disagrees with the kinds (R131 checks 4 and 5). -/
def readHolds : Nat → List Byte → Option (List Hold)
  | 0, bytes => if bytes.isEmpty then some [] else none
  | n + 1, bytes =>
    if bytes.length < 9 then none
    else
      match field bytes 8 1 with
      | 1 => (readHolds n (bytes.drop 9)).map (⟨field bytes 0 4, field bytes 4 4, .withdraw⟩ :: ·)
      | 2 =>
        if bytes.length < 11 then none
        else (readHolds n (bytes.drop 11)).map
          (⟨field bytes 0 4, field bytes 4 4, .floor (field bytes 9 2)⟩ :: ·)
      | _ => none

/-- The report fields of a frame (Table 10-5), powers converted to W (R132). -/
def reportFields (frame : List Byte) : Report where
  soc := field frame 3 2
  capacity := field frame 5 2
  power := fieldInt frame 7 2 * 10
  maxDischarge := field frame 9 2 * 10
  maxCharge := field frame 11 2 * 10
  floor := field frame 13 2
  fault := field frame 15 1
  optOut := (field frame 16 1).testBit 0

/-- The checks of R131 on a complete frame, in their order, for the visit to `address`. -/
def judgeFrame (address : Nat) (frame : List Byte) : Except FailureCause CarriedReport :=
  let covered := frame.take (frame.length - 2)
  if readBytes (frame.drop (frame.length - 2)) ≠ (crc16 covered).toNat then .error .badCheck
  else if field frame 1 1 ≠ 2 then .error .malformed
  else if field frame 2 1 ≠ address then .error .wrongAddress
  else if 4 < field frame 17 1 then .error .malformed
  else
    match readHolds (field frame 17 1) (covered.drop 18) with
    | none => .error .malformed
    | some holds => .ok ⟨reportFields frame, holds⟩

end Sys2Proof.Machine
end

