-- ==== Sys2Proof/Machine/Ops.lean ====
section
/-! DEFINITION. The operations the blocks share: running, replies and service, the Fleet Table, the
book's removals, the episode and test flags other blocks read. -/

namespace Sys2Proof.Machine

/-! ### Running -/

/-- The part runs: supplied, and not held in reset (R172). -/
def State.running (s : State) : Bool := s.powered && !s.resetLow

/-- An event reaches the part only while it runs: held in reset or without supply nothing is received,
transmitted or timed (R172). -/
def whenRunning (f : State → State) (s : State) : Host.Outcome State Fault Refusal :=
  .next (if s.running then f s else s)

/-- Nominal frequency, mHz, by the NOMF strap (R171). -/
def State.nominal (s : State) : Nat := if s.straps.nomfHigh then 60000 else 50000

/-- Arm a timer now. -/
def State.arm (s : State) (duration : Nat) : Timer := ⟨s.time, duration⟩

/-! ### Replies and service -/

/-- What an owner answers to a request: DONE with a body, REFUSED with a reason, or a request held in
service until a later event (R156). -/
inductive Answer where
  | done (body : List Byte)
  | refused (reason : Reason)
  | held
  deriving DecidableEq, Repr

/-- A reply joins the port's transmitter: it is sent at once or waits behind the others (R156). -/
def PortState.transmit (x : PortState) (r : Reply) : PortState :=
  match x.sending with
  | none => { x with sending := some r }
  | some _ => { x with waiting := x.waiting ++ [r] }

def Reply.isBusy (r : Reply) : Bool := r.outcome == .busy

/-- A BUSY reply (R155, R156): dropped when four BUSY replies already wait (log entry 10). -/
def PortState.answerBusy (x : PortState) (kind tag : Byte) : PortState :=
  if x.sending.isSome && decide (4 ≤ (x.waiting.filter Reply.isBusy).length) then x
  else x.transmit ⟨kind, tag, .busy, .clear, []⟩

/-- A REFUSED reply, its body empty (R166). -/
def refusedReply (kind tag : Byte) (reason : Reason) : Reply := ⟨kind, tag, .refused, reason, []⟩

/-- A DONE reply (R156, 10.2). -/
def doneReply (kind tag : Byte) (body : List Byte) : Reply := ⟨kind, tag, .done, .clear, body⟩

/-- The port's receiver has taken a complete request and hunts again at once (R154). -/
def State.heard (s : State) (port : Port) : State :=
  s.setPort port { s.port port with receiver := .hunting false }

/-- Send a reply on a port. -/
def State.send (s : State) (port : Port) (r : Reply) : State := s.setPort port ((s.port port).transmit r)

/-- The reply of the request in service is formed: the request leaves service (R156). -/
def State.finish (s : State) (port : Port) (r : Reply) : State :=
  s.setPort port ({ s.port port with service := none }.transmit r)

/-- The request becomes the port's request in service (R155 case 5). -/
def State.enter (s : State) (port : Port) (kind : RequestKind) (tag : Byte) : State :=
  s.setPort port { s.port port with service := some ⟨kind, tag⟩ }

/-- R155 on a request of a known kind: busy, wrong port, wrong body length, or served by its owner. -/
def serve (kind : RequestKind) (port : Port) (tag : Byte) (body : List Byte)
    (owner : State → State × Answer) (s0 : State) : State :=
  let s := s0.heard port
  if (s.port port).service.isSome then
    s.setPort port ((s.port port).answerBusy kind.code tag)
  else if !kind.permitted s.straps.fsrcHigh port then
    s.send port (refusedReply kind.code tag .notOnPort)
  else if body.length != kind.bodyLength body then
    s.send port (refusedReply kind.code tag .badField)
  else
    let (s1, answer) := owner (s.enter port kind tag)
    match answer with
    | .done reply => s1.finish port (doneReply kind.code tag reply)
    | .refused reason => s1.finish port (refusedReply kind.code tag reason)
    | .held => s1

/-- A request row: R155 while the part runs. -/
def request (kind : RequestKind) (port : Port) (tag : Byte) (body : List Byte)
    (owner : State → State × Answer) (s : State) : Host.Outcome State Fault Refusal :=
  whenRunning (serve kind port tag body owner) s

/-! ### The Fleet Table -/

/-- The record at an address, none where the entry is VACANT (R21). -/
def Fleet.get : Fleet → Nat → Option UnitRecord
  | [], _ => none
  | (b, u) :: rest, a => if a = b then some u else Fleet.get rest a

/-- Write the record at an address, in table order. -/
def Fleet.put : Fleet → Nat → UnitRecord → Fleet
  | [], a, u => [(a, u)]
  | (b, v) :: rest, a, u =>
    if a = b then (a, u) :: rest
    else if a < b then (a, u) :: (b, v) :: rest
    else (b, v) :: Fleet.put rest a u

/-- Vacate an address. -/
def Fleet.erase (f : Fleet) (a : Nat) : Fleet := f.filter fun e => e.1 != a

/-- Change every record. -/
def Fleet.mapUnits (f : Fleet) (g : UnitRecord → UnitRecord) : Fleet := f.map fun e => (e.1, g e.2)

/-- The records, in table order. -/
def Fleet.units (f : Fleet) : List UnitRecord := f.map Prod.snd

def State.setUnit (s : State) (a : Nat) (u : UnitRecord) : State := { s with fleet := Fleet.put s.fleet a u }

/-- The unit's mode is TEST. -/
def UnitRecord.inTest (u : UnitRecord) : Bool :=
  match u.mode with
  | .test _ => true
  | .plain _ => false

/-- The unit's mode is OFF. -/
def UnitRecord.isOff (u : UnitRecord) : Bool := u.mode == .plain .off

/-- The mode a unit under test returns to, or the mode it has (R36, R37, R38). -/
def Mode.enrolled : Mode → EnrolMode
  | .plain m => m
  | .test t => t.prior

/-- The declared headroom, present in MANUAL and in TEST entered from MANUAL (Table 2-1). -/
def UnitRecord.declared (u : UnitRecord) : Option Sides :=
  match u.mode.enrolled with
  | .manual d => some d
  | _ => none

/-- The bar reasons are empty. -/
def BarReasons.empty (b : BarReasons) : Bool := !b.fault && !b.optOut && !b.lowResponse

/-- A unit is eligible: LIVE, not barred, in AUTO or MANUAL (R22). -/
def UnitRecord.eligible (u : UnitRecord) : Bool :=
  u.link == .live && u.bars.empty && !u.inTest && !u.isOff

/-- The address of the unit under test, the first in table order (R34: at most one). -/
def Fleet.underTest (f : Fleet) : Option Nat := (f.find? fun e => e.2.inTest).map Prod.fst

/-- Abort a running test within the record (R37): the mode returns and the outcome is ABORTED. -/
def UnitRecord.abortTest (u : UnitRecord) : UnitRecord :=
  match u.mode with
  | .test t => { u with mode := .plain t.prior, lastTest := some .aborted }
  | .plain _ => u

/-- The setpoint and both components become 0 (R25, R29). -/
def UnitRecord.zeroed (u : UnitRecord) : UnitRecord :=
  { u with setpoint := 0, participation := 0, restoration := 0 }

/-- A unit leaves LIVE (R29). -/
def UnitRecord.leaveLive (u : UnitRecord) : UnitRecord := { u.zeroed with baseline := none }.abortTest

/-! ### The book and the committed sums -/

/-- The level record of a commitment in force or in overrun. -/
def Commitment.level (c : Commitment) : Option LevelRecord :=
  match c.standing with
  | .pending => none
  | .inForce l => some l
  | .overrun l => some l

def Commitment.isPending (c : Commitment) : Bool :=
  match c.standing with
  | .pending => true
  | _ => false

def Commitment.isOverrun (c : Commitment) : Bool :=
  match c.standing with
  | .overrun _ => true
  | _ => false

/-- Change the level record, keeping the state. -/
def Commitment.mapLevel (c : Commitment) (f : LevelRecord → LevelRecord) : Commitment :=
  match c.standing with
  | .pending => c
  | .inForce l => { c with standing := .inForce (f l) }
  | .overrun l => { c with standing := .overrun (f l) }

/-- The commitment covers a slot: start ≤ slot ≤ end (R45). -/
def Commitment.covers (c : Commitment) (slot : Nat) : Bool := decide (c.start ≤ slot ∧ slot ≤ c.stop)

/-- The commitment covers a planning row; a row that stands for no slot is covered by none. -/
def Commitment.coversRow (c : Commitment) (r : PlanRow) : Bool :=
  match r.slot with
  | none => false
  | some slot => c.covers slot

/-- Add a commitment's sums to a row it covers (R47). -/
def PlanRow.commit (c : Commitment) (r : PlanRow) : PlanRow :=
  if c.coversRow r then
    { r with committed := r.committed.add c.capacity, required := r.required.add c.requirement }
  else r

/-- Subtract a commitment's sums from a row it covers (R47). -/
def PlanRow.uncommit (c : Commitment) (r : PlanRow) : PlanRow :=
  if c.coversRow r then
    { r with committed := r.committed.sub c.capacity, required := r.required.sub c.requirement }
  else r

/-- Change every row, the horizon row included. -/
def Plan.mapRows (p : Plan) (f : PlanRow → PlanRow) : Plan := ⟨p.rows.map f, p.horizon.map f⟩

/-- The array's rows and the horizon row. -/
def Plan.all (p : Plan) : List PlanRow := p.rows ++ p.horizon.toList

/-- The row for a slot, from the array or the horizon row (R51). -/
def Plan.rowFor (p : Plan) (slot : Nat) : Option PlanRow := p.all.find? fun r => r.slot == some slot

/-- The Headroom Engine's current slot: the slot of the first row (R39). -/
def Plan.currentSlot (p : Plan) : Option Nat := p.rows.head?.bind PlanRow.slot

/-- The commitment of an id. -/
def Book.find (b : Book) (id : Nat) : Option Commitment := b.records.find? fun c => c.id == id

def State.setRecords (s : State) (l : List Commitment) : State := { s with book := { s.book with records := l } }

/-- A commitment leaves the book: its sums leave the rows it covers, its id leaves the marked set, and
BOOK is posted (R19, R47, R55). Its level record and timers leave with it (R78). -/
def State.removeCommitment (s : State) (c : Commitment) : State :=
  { s.setRecords (s.book.records.filter fun d => d.id != c.id) with
    plan := s.plan.mapRows (PlanRow.uncommit c)
    marked := s.marked.filter fun i => i != c.id }.post .book

/-- Several commitments leave the book, one after another. -/
def State.removeAll (s : State) (l : List Commitment) : State := l.foldl State.removeCommitment s

/-! ### The open episode -/

/-- The Delivery Monitor holds an open episode. -/
def State.episodeOpen (s : State) : Bool := s.delivery.episode.isSome

/-- Wh of an accumulator in 0.2 W·s (R143). -/
def wattHours (n : Nat) : Nat := n / 18000

end Sys2Proof.Machine
end

