-- ==== Sys2Proof/Machine/Analog.lean ====
section
/-! DEFINITION. The Feeder Analog Monitor (4.4): conversion sets and completions. -/

namespace Sys2Proof.Machine

def Analog.get (a : Analog) : Channel → ChannelRecord
  | .ia => a.ia
  | .ib => a.ib
  | .ic => a.ic
  | .pnet => a.pnet

def Analog.put (a : Analog) (c : Channel) (r : ChannelRecord) : Analog :=
  match c with
  | .ia => { a with ia := r }
  | .ib => { a with ib := r }
  | .ic => { a with ic := r }
  | .pnet => { a with pnet := r }

/-- The scaled value of a code (R74, R75). -/
def scaledValue (p : Profile) (c : Channel) (code : Code) : Int :=
  match c with
  | .pnet =>
    clamp ((((code.toNat : Int) - 2048) * p.get .powerScale).tdiv 2047) (-(p.get .powerScale))
      (p.get .powerScale)
  | _ => (code.toNat * p.nat .currentScale / 4095 : Nat)

/-- The channel record written at a completion: code, value and over-range flag together (R73 to R76). -/
def convertedRecord (p : Profile) (c : Channel) (code : Code) : ChannelRecord where
  code := code
  value := scaledValue p c code
  present := true
  overRange := code == 0 || code == 4095#12

/-- A channel outside the set's enables is ABSENT from the start of the set (R73). -/
def keepEnabled (enabled : List Channel) (c : Channel) (r : ChannelRecord) : ChannelRecord :=
  if enabled.contains c then r else .absent

/-- A conversion set starts with the enables then in force (R73). R73 does not say what becomes of conversions
of the previous set still outstanding; that they are abandoned is the model's choice (log entry 25). -/
def State.startSet (s : State) : State :=
  let enabled := enabledChannels s.profile
  let a := s.analog
  { s with analog :=
      ⟨keepEnabled enabled .ia a.ia, keepEnabled enabled .ib a.ib, keepEnabled enabled .ic a.ic,
        keepEnabled enabled .pnet a.pnet, enabled, some (s.arm (msCounts 20))⟩ }

/-- The next conversion of the set completes with a code (R73, R74); with none left in the set nothing
completes. -/
def State.convert (code : Code) (s : State) : State :=
  match s.analog.converting with
  | [] => s
  | c :: rest =>
    { s with analog := { s.analog.put c (convertedRecord s.profile c code) with converting := rest } }

/-- CONVERSION_SET_START (R73). -/
def execConversionSetStart (s : State) : Host.Outcome State Fault Refusal := whenRunning State.startSet s

/-- CONVERSION_COMPLETE (R74). -/
def execConversionComplete (code : Code) (s : State) : Host.Outcome State Fault Refusal :=
  whenRunning (State.convert code) s

end Sys2Proof.Machine
end

