-- ==== Sys2Proof/Machine/Layouts.lean ====
section
/-! DEFINITION. The byte layouts of reply bodies and frames (R166, Tables 10-2, 10-5 and 10-6). -/

namespace Sys2Proof.Machine

/-- The reply frame as sent on the line (Table 10-2): start pair, length, kind, tag, outcome, reason,
body, check. -/
def Reply.frame (r : Reply) : List Byte :=
  let covered := be 1 (4 + r.body.length) ++ [r.kind, r.tag, r.outcome.code, r.reason.code] ++ r.body
  [0xC3#8, 0x3C#8] ++ covered ++ crcBytes covered

/-- The setpoint frame as sent on the fleet bus (Table 10-5). -/
def SetpointFrame.bytes (f : SetpointFrame) : List Byte :=
  let flags := f.participating.toNat + 2 * f.restoring.toNat + 4 * f.test.toNat + 8 * f.episode.toNat
  let covered := [10#8, 1#8] ++ be 1 f.address ++ beInt 4 f.setpoint ++ be 1 flags
  covered ++ crcBytes covered

/-- The product parameters as bytes 22 to 27 of Table 10-4, every parameter present. -/
def Snapshot.bytes : Snapshot → List Byte
  | .prop db full eu ed => be 2 db ++ be 2 full ++ be 1 eu ++ be 1 ed
  | .trig td d rr l => be 2 td ++ be 1 d ++ be 1 rr ++ be 2 l
  | .setp e ramp => be 1 e ++ be 2 ramp ++ be 3 0

def Standing.code : Standing → Nat
  | .pending => 0
  | .inForce _ => 1
  | .overrun _ => 2

/-- The TRIG phase code and confirmation count of a record, 0 where it has none (Table 10-6). -/
def Commitment.phaseBytes (c : Commitment) : List Byte :=
  match c.level.map LevelRecord.follower with
  | some (.trig (.ready count)) => be 1 0 ++ be 1 count
  | some (.trig (.firing _)) => be 1 1 ++ be 1 0
  | some (.trig (.releasing _)) => be 1 2 ++ be 1 0
  | some (.trig (.lockout _)) => be 1 3 ++ be 1 0
  | _ => be 1 0 ++ be 1 0

/-- The commitment layout, 51 bytes (Table 10-6). -/
def Commitment.bytes (c : Commitment) : List Byte :=
  be 2 c.id ++ be 4 c.marketRef ++ be 4 c.seq ++ be 1 c.snapshot.product.code ++ be 4 c.start
    ++ be 4 c.stop ++ be 4 c.capacity.up ++ be 4 c.capacity.down ++ c.snapshot.bytes
    ++ beEnergy c.requirement.up ++ beEnergy c.requirement.down ++ be 1 c.standing.code
    ++ be 1 c.mark.code ++ beInt 2 ((c.level.map LevelRecord.level).getD 0)
    ++ beInt 4 ((c.level.map LevelRecord.power).getD 0) ++ c.phaseBytes

/-- One hold, 11 bytes: the floor value of a WITHDRAW hold is sent 0 (Table 10-6). -/
def Hold.bytes (h : Hold) : List Byte :=
  be 4 h.start ++ be 4 h.stop ++ be 1 h.kind.code
    ++ (match h.kind with
        | .withdraw => be 2 0
        | .floor e => be 2 e)

/-- The four hold places: those beyond the count are sent 0 (Table 10-6). -/
def holdBytes (holds : List Hold) : List Byte :=
  (holds.take 4).flatMap Hold.bytes ++ be (11 * (4 - holds.length)) 0

def Report.bytes (r : Report) : List Byte :=
  be 2 r.soc ++ be 2 r.capacity ++ beInt 4 r.power ++ be 4 r.maxDischarge ++ be 4 r.maxCharge
    ++ be 2 r.floor ++ be 1 r.fault ++ beFlag r.optOut

/-- The test record of the unit layout; the time since the start in ms (Table 10-6). -/
def TestRecord.bytes (now : Nat) (t : TestRecord) : List Byte :=
  be 4 ((now - t.start) / msCounts 1) ++ be 1 t.prior.code ++ beInt 4 t.preTest ++ be 4 t.power
    ++ be 1 t.duration ++ be 2 t.count ++ beInt 4 t.accumulator

def UnitRecord.testRecord (u : UnitRecord) : Option TestRecord :=
  match u.mode with
  | .test t => some t
  | .plain _ => none

/-- The last test outcome and its g, the g sent 0 for ABORTED (Table 10-6). -/
def TestOutcome.bytes (o : TestOutcome) : List Byte :=
  be 1 o.code ++ (match o with
    | .passed g => be 2 g
    | .low g => be 2 g
    | .aborted => be 2 0)

/-- The presence byte of the unit layout (Table 10-6). -/
def UnitRecord.presence (u : UnitRecord) : Nat :=
  u.declared.isSome.toNat + 2 * u.report.isSome.toNat + 4 * u.baseline.isSome.toNat
    + 8 * u.testRecord.isSome.toNat + 16 * u.lastTest.isSome.toNat

/-- The unit layout, 128 bytes (Table 10-6). -/
def UnitRecord.bytes (now address : Nat) (u : UnitRecord) : List Byte :=
  be 1 address ++ be 1 u.link.code ++ be 1 u.misses ++ be 1 u.mode.code ++ be 1 u.presence
    ++ be 4 (u.declared.getD Sides.zero).up ++ be 4 (u.declared.getD Sides.zero).down
    ++ be 2 u.g ++ be 1 u.bars.code
    ++ (u.report.map Report.bytes).getD (be 20 0)
    ++ be 1 u.holds.length ++ holdBytes u.holds
    ++ be 4 u.live.up ++ be 4 u.live.down ++ beInt 4 u.participation ++ beInt 4 u.restoration
    ++ beInt 4 u.setpoint ++ beInt 4 (u.baseline.getD 0)
    ++ (u.testRecord.map (TestRecord.bytes now)).getD (be 20 0)
    ++ (u.lastTest.map TestOutcome.bytes).getD (be 3 0)

/-- The availability layout, 53 bytes, with the meter state and the zone (R57, Table 10-6). -/
def Availability.bytes (a : Availability) (meter : MeterState) (zone : Zone) : List Byte :=
  be 1 a.stamp.isSome.toNat ++ be 4 (a.stamp.getD (0, 0)).1 ++ be 2 (a.stamp.getD (0, 0)).2
    ++ be 1 a.eligible ++ be 4 a.power.up ++ be 4 a.power.down
    ++ beEnergy a.energy.up ++ beEnergy a.energy.down ++ be 1 a.forceCount
    ++ be 4 a.forceCapacity.up ++ be 4 a.forceCapacity.down
    ++ beEnergy a.forceRequirement.up ++ beEnergy a.forceRequirement.down
    ++ be 1 a.liveMarked ++ be 4 a.liveMarkedCapacity.up ++ be 4 a.liveMarkedCapacity.down
    ++ be 1 a.planningMarked ++ be 1 meter.code ++ be 1 zone.code

/-- A planning figure scaled by the margin: floor(x × m / 4096) (R51, R58). -/
def scaled (m x : Nat) : Nat := x * m / 4096

/-- The plan row layout, 52 bytes (R58, Table 10-6). -/
def PlanRow.bytes (m : Nat) (r : PlanRow) : List Byte :=
  be 4 (r.slot.getD 0) ++ be 4 r.power.up ++ be 4 r.power.down
    ++ beEnergy r.energy.up ++ beEnergy r.energy.down
    ++ be 4 (scaled m r.power.up) ++ beEnergy (scaled m r.energy.up)
    ++ be 4 (scaled m r.power.down) ++ beEnergy (scaled m r.energy.down)
    ++ be 4 r.committed.up ++ be 4 r.committed.down
    ++ beEnergy r.required.up ++ beEnergy r.required.down

/-- A contributor entry, 7 bytes; its energy is given in Wh (Table 10-6). -/
def contributorBytes (id : Nat) (product : Product) (wh : Nat) : List Byte :=
  be 2 id ++ be 1 product.code ++ beEnergy wh

/-- The eight contributor places, those beyond the count sent 0; `wh` gives an entry's energy. -/
def contributorList (wh : Nat → Nat) (l : List Contributor) : List Byte :=
  (l.take 8).flatMap (fun c => contributorBytes c.id c.product (wh c.energy)) ++ be (7 * (8 - l.length)) 0

/-- The episode record layout, 104 bytes; its energies are held in Wh (Table 10-6). -/
def EpisodeRecord.bytes (r : EpisodeRecord) : List Byte :=
  be 4 r.number ++ be 4 r.openSlot ++ be 2 r.openSecond ++ be 4 r.closeSlot ++ be 2 r.closeSecond
    ++ be 1 r.contributors.length ++ contributorList id r.contributors ++ beFlag r.overflow
    ++ be 4 r.peak ++ beEnergy r.energies.required ++ beEnergy r.energies.permitted
    ++ beEnergy r.energies.delivered ++ beEnergy r.energies.gridLimited
    ++ beEnergy r.energies.shortfall ++ be 4 r.shortCycles ++ be 1 r.outcome.code
    ++ beFlag r.gridLimited

/-- The running episode layout, 117 bytes (R151, Table 10-6). -/
def Episode.bytes (baselines : Nat) (e : Episode) : List Byte :=
  be 4 e.number ++ be 4 e.openSlot ++ be 2 e.openSecond
    ++ beEnergy (wattHours e.energies.required) ++ beEnergy (wattHours e.energies.permitted)
    ++ beEnergy (wattHours e.energies.gridLimited) ++ beEnergy (wattHours e.energies.delivered)
    ++ beEnergy (wattHours e.energies.shortfall) ++ be 4 e.peak
    ++ be 1 e.contributors.length ++ contributorList wattHours e.contributors ++ beFlag e.overflow
    ++ be 4 e.shortCycles ++ be 1 e.shortRun ++ be 1 e.grace ++ be 2 e.quiet
    ++ beInt 4 e.delivered ++ beInt 4 e.lastRequired ++ beInt 4 e.lastPermitted
    ++ beInt 4 e.lastAsked ++ be 1 baselines

/-- How many units are in a link state. -/
def Fleet.countLink (f : Fleet) (l : LinkState) : Nat := (f.filter fun e => e.2.link == l).length

/-- The channels byte of the status layout: presence in bits 0 to 3, over-range in bits 4 to 7. -/
def Analog.code (a : Analog) : Nat :=
  a.ia.present.toNat + 2 * a.ib.present.toNat + 4 * a.ic.present.toNat + 8 * a.pnet.present.toNat
    + 16 * a.ia.overRange.toNat + 32 * a.ib.overRange.toNat + 64 * a.ic.overRange.toNat
    + 128 * a.pnet.overRange.toNat

/-- The status layout, 33 bytes (R158, Table 10-6). -/
def State.statusBytes (s : State) : List Byte :=
  beFlag s.clock.set ++ be 4 (if s.clock.set then s.clock.slot else 0)
    ++ be 2 (if s.clock.set then s.clock.second else 0)
    ++ be 1 (s.straps.nomfHigh.toNat + 2 * s.straps.fsrcHigh.toNat)
    ++ be 1 s.book.records.length
    ++ be 1 (Fleet.countLink s.fleet .joining) ++ be 1 (Fleet.countLink s.fleet .live)
    ++ be 1 (Fleet.countLink s.fleet .stale) ++ be 1 (Fleet.countLink s.fleet .lost)
    ++ be 1 (240 - s.fleet.length)
    ++ beFlag (Fleet.underTest s.fleet).isSome ++ be 1 ((Fleet.underTest s.fleet).getD 0)
    ++ beFlag s.episodeOpen ++ be 4 ((s.delivery.episode.map Episode.number).getD 0)
    ++ be 1 s.meter.state.code ++ beInt 4 s.thermal.theta ++ be 1 s.thermal.zone.code
    ++ be 1 s.thermal.direction.code ++ be 1 s.analog.code ++ be 4 s.link.round

end Sys2Proof.Machine
end

