-- ==== Sys2Proof/Machine/Headroom.lean ====
section
/-! DEFINITION. The Headroom Engine (chapter 3): live headroom, the availability evaluation, the
planning array, the admission test, the at-risk marks, and its read requests. -/

namespace Sys2Proof.Machine

/-! ### One unit -/

/-- A hold covers a slot; while there is no current slot no hold covers it (R32, R39). -/
def Hold.covers (h : Hold) (slot : Option Nat) : Bool :=
  match slot with
  | none => false
  | some s => decide (h.start ≤ s ∧ s ≤ h.stop)

/-- A WITHDRAW hold covers the slot. -/
def withdrawn (holds : List Hold) (slot : Option Nat) : Bool :=
  holds.any fun h => h.covers slot && h.kind == .withdraw

/-- The largest floor value among the FLOOR holds that cover the slot, 0 if none does. -/
def holdFloor (holds : List Hold) (slot : Option Nat) : Nat :=
  holds.foldl (fun acc h =>
    match h.kind with
    | .floor e => if h.covers slot then max acc e else acc
    | .withdraw => acc) 0

/-- The energy floor F for a slot (R40, R46). -/
def energyFloor (p : Profile) (r : Report) (holds : List Hold) (slot : Option Nat) : Nat :=
  max (max r.floor (r.capacity * p.nat .technicalFloor / 100)) (holdFloor holds slot)

/-- The energy ceiling (R40). -/
def energyCeiling (p : Profile) (r : Report) : Nat := r.capacity * (100 - p.nat .ceilingMargin) / 100

/-- The target energy (R46, R117). -/
def energyTarget (p : Profile) (r : Report) : Nat := r.capacity * p.nat .restorationTarget / 100

/-- The unit has live headroom: eligible and not withdrawn in the current slot (R39). -/
def hasHeadroom (u : UnitRecord) (slot : Option Nat) : Bool := u.eligible && !withdrawn u.holds slot

/-- The energies above the floor and below the ceiling, scaled by nothing (R40, R41); Nat subtraction
takes a negative energy as zero. -/
def spareEnergy (p : Profile) (r : Report) (holds : List Hold) (slot : Option Nat) : Sides :=
  ⟨r.soc - energyFloor p r holds slot, energyCeiling p r - r.soc⟩

/-- The live headroom of one side (R41). -/
def headroomSide (limit energy minutes g : Nat) : Nat :=
  floor10 (min limit (energy * 60 / minutes) * g / 4096)

/-- The live headroom of a unit (R39 to R41). -/
def liveHeadroom (p : Profile) (slot : Option Nat) (u : UnitRecord) : Sides :=
  match hasHeadroom u slot, u.report with
  | true, some r =>
    let e := spareEnergy p r u.holds slot
    ⟨headroomSide r.maxDischarge e.up (p.nat .dispatchEndurance) u.g,
      headroomSide r.maxCharge e.down (p.nat .dispatchEndurance) u.g⟩
  | _, _ => Sides.zero

/-- A unit's part of E_live (R42). -/
def liveEnergy (p : Profile) (slot : Option Nat) (u : UnitRecord) : Sides :=
  match hasHeadroom u slot, u.report with
  | true, some r => (spareEnergy p r u.holds slot).map fun e => e * u.g / 4096
  | _, _ => Sides.zero

/-- The unit counts in the planning row of a slot (R46). -/
def plannable (u : UnitRecord) (slot : Nat) : Bool :=
  u.link == .live && u.bars.empty && !u.isOff && !withdrawn u.holds (some slot)

/-- A unit's planning power in the row of a slot (R46). -/
def planPower (slot : Nat) (u : UnitRecord) : Sides :=
  match plannable u slot, u.report with
  | true, some r =>
    let own : Sides := ⟨floor10 (r.maxDischarge * u.g / 4096), floor10 (r.maxCharge * u.g / 4096)⟩
    match u.declared with
    | some d => own.min d
    | none => own
  | _, _ => Sides.zero

/-- A unit's planning energy in the row of a slot (R46). -/
def planEnergy (p : Profile) (slot : Nat) (u : UnitRecord) : Sides :=
  match plannable u slot, u.report with
  | true, some r =>
    ⟨(energyTarget p r - energyFloor p r u.holds (some slot)) * u.g / 4096,
      (energyCeiling p r - energyTarget p r) * u.g / 4096⟩
  | _, _ => Sides.zero

/-! ### The planning array -/

/-- The fleet part of a row computed afresh from the unit records (R46). -/
def PlanRow.refresh (p : Profile) (f : Fleet) (r : PlanRow) : PlanRow :=
  match r.slot with
  | none => r
  | some slot =>
    { r with
      power := Sides.sum ((Fleet.units f).map (planPower slot))
      energy := Sides.sum ((Fleet.units f).map (planEnergy p slot)) }

/-- A new row for a slot with committed sums 0 (R49, R50); a slot beyond the last has no row (R45). -/
def PlanRow.form (p : Profile) (f : Fleet) (slot : Nat) : Option PlanRow :=
  if slot ≤ maxWord then some ({ PlanRow.blank with slot := some slot }.refresh p f) else none

/-- The array built when the clock is set to slot `c` (R50). -/
def Plan.build (p : Profile) (f : Fleet) (c : Nat) : Plan :=
  ⟨(List.range' c 192).filterMap (PlanRow.form p f), PlanRow.form p f (c + 192)⟩

/-- The shift at a boundary into slot `n` (R49). -/
def Plan.shift (p : Profile) (f : Fleet) (n : Nat) (plan : Plan) : Plan :=
  ⟨plan.rows.drop 1 ++ (plan.horizon.map (PlanRow.refresh p f)).toList, PlanRow.form p f (n + 192)⟩

/-- A row's figures for a side fit with some more committed to it (R51): both inequalities hold. -/
def PlanRow.fits (m : Nat) (r : PlanRow) (capacity requirement : Sides) (side : Side) : Bool :=
  decide (r.committed.get side + capacity.get side ≤ scaled m (r.power.get side) ∧
    r.required.get side + requirement.get side ≤ scaled m (r.energy.get side))

/-- The first side that fails at a row, UP examined before DOWN, a side of capacity 0 not examined. -/
def PlanRow.failingSide (m : Nat) (r : PlanRow) (capacity requirement : Sides) : Option Side :=
  if 0 < capacity.up ∧ !r.fits m capacity requirement .up then some .up
  else if 0 < capacity.down ∧ !r.fits m capacity requirement .down then some .down
  else none

/-- The admission test (R51): the first slot and side that fails, none when the test passes. -/
def admissionTest (plan : Plan) (m start stop : Nat) (capacity requirement : Sides) :
    Option (Nat × Side) :=
  (List.range' start (stop + 1 - start)).findSome? fun slot =>
    (plan.rowFor slot).bind fun r =>
      (r.failingSide m capacity requirement).map fun side => (slot, side)

/-! ### The energy requirement -/

/-- The energy requirement of a commitment (R44). -/
def energyRequirement (capacity : Sides) : Snapshot → Sides
  | .prop _ _ eu ed => ⟨ceilDiv (capacity.up * eu) 60, ceilDiv (capacity.down * ed) 60⟩
  | .trig _ d _ _ => ⟨ceilDiv (capacity.up * d) 3600, 0⟩
  | .setp e _ => ⟨ceilDiv (capacity.up * e) 60, ceilDiv (capacity.down * e) 60⟩

/-! ### The at-risk marks -/

/-- Insert into a list whose acceptance sequences fall. -/
def insertLatest (c : Commitment) : List Commitment → List Commitment
  | [] => [c]
  | d :: rest => if d.seq ≤ c.seq then c :: d :: rest else d :: insertLatest c rest

/-- The candidates with the greatest acceptance sequence first (R53, R54). -/
def latestFirst : List Commitment → List Commitment
  | [] => []
  | c :: rest => insertLatest c (latestFirst rest)

/-- Mark candidates, in the order given, until the side fits; the ids marked (R53, R54). -/
def markUntilFit (side : Side) (limitPower limitEnergy : Nat) :
    List Commitment → Nat → Nat → List Nat
  | [], _, _ => []
  | c :: rest, power, energy =>
    if power ≤ limitPower ∧ energy ≤ limitEnergy then []
    else c.id :: markUntilFit side limitPower limitEnergy rest (power - c.capacity.get side)
      (energy - c.requirement.get side)

/-- The LIVE check of one side (R53). -/
def liveCheck (a : Availability) (records : List Commitment) (side : Side) : List Nat :=
  markUntilFit side (a.power.get side) (a.energy.get side)
    (latestFirst (records.filter fun c => !c.isPending && decide (0 < c.capacity.get side)))
    (a.forceCapacity.get side) (a.forceRequirement.get side)

/-- The PLANNING check of one row and side (R54). -/
def planningCheck (m : Nat) (records : List Commitment) (r : PlanRow) (side : Side) : List Nat :=
  markUntilFit side (scaled m (r.power.get side)) (scaled m (r.energy.get side))
    (latestFirst (records.filter fun c =>
      c.isPending && c.coversRow r && decide (0 < c.capacity.get side)))
    (r.committed.get side) (r.required.get side)

/-- The ids the PLANNING check reaches in any row or side; none while the clock is UNSET (R54). -/
def planningMarks (set : Bool) (m : Nat) (records : List Commitment) (plan : Plan) : List Nat :=
  if set then
    plan.all.flatMap fun r => planningCheck m records r .up ++ planningCheck m records r .down
  else []

/-- The mark each record takes at step 4: LIVE for one in force, PLANNING for a pending one (R43). -/
def Commitment.remark (liveIds planningIds : List Nat) (c : Commitment) : Commitment :=
  if c.isPending then
    { c with mark := if planningIds.contains c.id then .planning else .clear }
  else { c with mark := if liveIds.contains c.id then .live else .clear }

/-- Two lists hold the same ids (R56). -/
def sameIds (a b : List Nat) : Bool := a.all (fun i => b.contains i) && b.all fun i => a.contains i

/-! ### The evaluation -/

/-- Step 1: every unit's live headroom is computed and written (R43). -/
def State.writeHeadroom (s : State) : State :=
  { s with fleet := Fleet.mapUnits s.fleet fun u =>
      { u with live := liveHeadroom s.profile s.plan.currentSlot u } }

/-- The commitments in force or in overrun. -/
def Book.forced (b : Book) : List Commitment := b.records.filter fun c => !c.isPending

/-- Step 2: the live availability record (R42); the marked figures follow at step 4. -/
def State.formAvailability (s : State) : State :=
  let units := (Fleet.units s.fleet).filter fun u => hasHeadroom u s.plan.currentSlot
  let forced := s.book.forced
  { s with avail :=
      { stamp := if s.clock.set then some (s.clock.slot, s.clock.second) else none
        eligible := units.length
        power := Sides.sum ((Fleet.units s.fleet).map UnitRecord.live)
        energy := Sides.sum ((Fleet.units s.fleet).map (liveEnergy s.profile s.plan.currentSlot))
        forceCount := forced.length
        forceCapacity := Sides.sum (forced.map Commitment.capacity)
        forceRequirement := Sides.sum (forced.map Commitment.requirement)
        liveMarked := 0
        liveMarkedCapacity := Sides.zero
        planningMarked := 0 } }

/-- Step 3: with the clock SET, the fleet part of every row is recomputed (R48). -/
def State.refreshPlan (s : State) : State :=
  if s.clock.set then { s with plan := s.plan.mapRows (PlanRow.refresh s.profile s.fleet) } else s

/-- Step 4: the marks are set afresh and the marked figures written (R43, R53, R54, R55). -/
def State.markAfresh (s : State) : State :=
  let liveIds := liveCheck s.avail s.book.records .up ++ liveCheck s.avail s.book.records .down
  let planningIds := planningMarks s.clock.set (s.profile.nat .margin) s.book.records s.plan
  let records := s.book.records.map (Commitment.remark liveIds planningIds)
  let live := records.filter fun c => c.mark == .live
  { s.setRecords records with
    marked := (records.filter fun c => c.mark != .clear).map Commitment.id
    avail :=
      { s.avail with
        liveMarked := live.length
        liveMarkedCapacity := Sides.sum (live.map Commitment.capacity)
        planningMarked := (records.filter fun c => c.mark == .planning).length } }

/-- The availability evaluation, taken at each round completion (R43); step 5 posts RISK (R56). -/
def State.evaluate (s : State) : State :=
  let s4 := s.writeHeadroom.formAvailability.refreshPlan.markAfresh
  s4.postIf (!sameIds s.marked s4.marked) .risk

/-! ### Reading headroom -/

/-- AVAIL-READ's answer (R57). R105 names AVAIL-READ among the readers of the throttled direction as well as
of the zone; R57 and Table 10-6 give its reply the zone alone, and so does the model (log entry 23). -/
def answerAvailRead (s : State) : State × Answer :=
  (s, .done (s.avail.bytes s.meter.state s.thermal.zone))

/-- PLAN-READ's answer (R58). A request that meets two of R58's refusals at once, the clock UNSET and the
row count outside 1..4, is answered NO_TIME: R58 gives them no order (the model's choice, log entry
9). -/
def answerPlanRead (body : List Byte) (s : State) : State × Answer :=
  let first := field body 0 4
  let count := field body 4 1
  if !s.clock.set then (s, .refused .noTime)
  else if count < 1 ∨ 4 < count then (s, .refused .badField)
  else if first < s.clock.slot ∨ s.clock.slot + 192 < first then (s, .refused .badField)
  else
    let rows := (List.range' first count).filterMap s.plan.rowFor
    let m := s.profile.nat .margin
    (s, .done (be 2 m ++ be 1 rows.length ++ rows.flatMap (PlanRow.bytes m)))

/-- AVAIL-READ (R57). -/
def execAvailRead (port : Port) (tag : Byte) (body : List Byte) (s : State) :
    Host.Outcome State Fault Refusal :=
  request .availRead port tag body answerAvailRead s

/-- PLAN-READ (R58). -/
def execPlanRead (port : Port) (tag : Byte) (body : List Byte) (s : State) :
    Host.Outcome State Fault Refusal :=
  request .planRead port tag body (answerPlanRead body) s

end Sys2Proof.Machine
end

