-- ==== Sys2Proof/Machine/Levels.lean ====
section
/-! DEFINITION. The Product Level Unit (chapter 5): level records, the cycle computation, the TRIG pulse
machine, the operator target and its age. -/

namespace Sys2Proof.Machine

/-! ### Levels and required powers -/

/-- The required power of a level (R80): truncated toward zero, by the capacity of the level's side. -/
def requiredPower (capacity : Sides) (level : Int) : Int :=
  if 0 < level then (level * capacity.up).tdiv 4096
  else if level < 0 then (level * capacity.down).tdiv 4096
  else 0

/-- The capacity-side rule (R81). -/
def capacitySide (capacity : Sides) (level : Int) : Int :=
  if 0 < level ∧ capacity.up = 0 then 0
  else if level < 0 ∧ capacity.down = 0 then 0
  else level

/-- The PROP level of a measurement before the capacity-side rule (R82). -/
def propFormula (nominal latest deadband full : Nat) : Int :=
  let d : Int := (nominal : Int) - latest
  let beyond := d.natAbs - deadband
  if d.natAbs ≤ deadband then 0
  else d.sign * (min 4096 (beyond * 4096 / (full - deadband)) : Nat)

/-- A held level decayed by 205 toward 0, the sign kept (R83). -/
def decayLevel (level : Int) : Int := level.sign * (level.natAbs - 205 : Nat)

/-- The holdover count at the start of a cycle computation (R83). -/
def nextHoldover (valid : Bool) (h : Nat) : Nat := if valid then 0 else min 255 (h + 1)

/-- The SETP ramp step fixed at creation (R78). -/
def rampStep (rampTime : Nat) : Nat := max 1 (4096 / (5 * rampTime))

/-- A SETP level moves toward its target by at most its step (R91). -/
def rampToward (step : Nat) (level target : Int) : Int :=
  if (target - level).natAbs ≤ step then target
  else if level < target then level + step
  else level - step

/-- The level record created for a record placed in force (R78, R12). -/
def newLevelRecord (snapshot : Snapshot) : LevelRecord :=
  ⟨0, 0, match snapshot with
    | .prop _ _ _ _ => .prop
    | .trig _ _ _ _ => .trig (.ready 0)
    | .setp _ ramp => .setp (rampStep ramp)⟩

/-! ### The TRIG pulse machine -/

/-- Entering LOCKOUT; with lockout 0 the record passes into READY at once (R87). -/
def enterLockout (now lockout : Nat) : TrigPhase :=
  if lockout = 0 then .ready 0 else .lockout ⟨now, secCounts lockout⟩

/-- A measurement taken by a TRIG record in READY (R84); other phases take none. -/
def takeConfirmation (now nominal f deviation support : Nat) : TrigPhase → TrigPhase
  | .ready count =>
    if f + deviation ≤ nominal then
      if 2 ≤ count + 1 then .firing ⟨now, secCounts support⟩ else .ready (count + 1)
    else .ready 0
  | phase => phase

/-- Change the phase of a TRIG level record. -/
def LevelRecord.mapPhase (l : LevelRecord) (f : TrigPhase → TrigPhase) : LevelRecord :=
  match l.follower with
  | .trig phase => { l with follower := .trig (f phase) }
  | _ => l

/-- One commitment takes a measurement (R84). -/
def Commitment.takeMeasurement (now nominal f : Nat) (c : Commitment) : Commitment :=
  match c.snapshot with
  | .trig deviation support _ _ =>
    c.mapLevel fun l => l.mapPhase (takeConfirmation now nominal f deviation support)
  | _ => c

/-- A Left VALID event sets the count of every READY record to 0 (R84). -/
def clearConfirmation : TrigPhase → TrigPhase
  | .ready _ => .ready 0
  | phase => phase

/-- The Product Level Unit takes a measurement (R67, R84). -/
def State.takeMeasurement (s : State) (f : Nat) : State :=
  s.setRecords (s.book.records.map (Commitment.takeMeasurement s.time s.nominal f))

/-- The Product Level Unit takes a Left VALID event (R67, R84). -/
def State.takeLeftValid (s : State) : State :=
  s.setRecords (s.book.records.map fun c => c.mapLevel fun l => l.mapPhase clearConfirmation)

/-- The TRIG phase of a record, if it has one. -/
def Commitment.phase (c : Commitment) : Option TrigPhase :=
  match c.level.map LevelRecord.follower with
  | some (.trig phase) => some phase
  | _ => none

/-! ### The cycle computation -/

/-- An OVERRUN record whose release completes at this cycle computation (R86, R16). -/
def Commitment.endsPulse (c : Commitment) : Bool :=
  match c.standing with
  | .overrun l =>
    match l.follower with
    | .trig (.releasing left) => decide (left ≤ 1)
    | _ => false
  | _ => false

/-- What a cycle computation reads of the whole part (R79, R82, R83, R91). -/
structure CycleInputs where
  now : Nat
  nominal : Nat
  latest : Nat
  holdover : Nat
  target : Int
  deriving DecidableEq, Repr

/-- The level and follower of a record at a cycle computation, before the capacity-side rule. -/
def formLevel (x : CycleInputs) (snapshot : Snapshot) (capacity : Sides) (l : LevelRecord) :
    Int × Follower :=
  match snapshot, l.follower with
  | .prop deadband full _ _, .prop =>
    if x.holdover = 0 then (propFormula x.nominal x.latest deadband full, .prop)
    else if x.holdover ≤ 10 then (l.level, .prop)
    else (decayLevel l.level, .prop)
  | .trig _ _ ramp lockout, .trig phase =>
    match phase with
    | .ready _ => (0, .trig phase)
    | .firing _ => (4096, .trig phase)
    | .releasing left =>
      ((4096 * (left - 1) / (5 * ramp) : Nat),
        .trig (if left - 1 = 0 then enterLockout x.now lockout else .releasing (left - 1)))
    | .lockout _ => (0, .trig phase)
  | .setp _ _, .setp step => (rampToward step l.level (capacitySide capacity x.target), .setp step)
  | _, other => (l.level, other)

/-- A level record at a cycle computation: level, required power and follower written together
(R79 to R81). -/
def cycleLevel (x : CycleInputs) (snapshot : Snapshot) (capacity : Sides) (l : LevelRecord) :
    LevelRecord :=
  let formed := formLevel x snapshot capacity l
  let level := capacitySide capacity formed.1
  ⟨level, requiredPower capacity level, formed.2⟩

def Commitment.cycle (x : CycleInputs) (c : Commitment) : Commitment :=
  c.mapLevel (cycleLevel x c.snapshot c.capacity)

/-- What this cycle computation reads, its holdover count already brought up to date. -/
def State.cycleInputs (s : State) : CycleInputs where
  now := s.time
  nominal := s.nominal
  latest := s.meter.latest.getD s.nominal
  holdover := nextHoldover (s.meter.state == .valid) s.levels.holdover
  target := if s.levels.age == .expired then 0 else s.levels.target

/-- The list a cycle computation answers to the Dispatch Apportioner, in key order: every commitment in
force or in overrun, with its id, product, level and required power (R79). -/
def Book.levelList (b : Book) : List LevelEntry :=
  b.records.filterMap fun c => c.level.map fun l => ⟨c.id, c.snapshot.product, l.level, l.power⟩

/-- The cycle computation (R79): the holdover count, every level and required power in key order, and
the records whose pulse ends here removed. -/
def State.cycleComputation (s : State) : State :=
  let x := s.cycleInputs
  let s1 := s.removeAll (s.book.records.filter Commitment.endsPulse)
  { s1.setRecords (s1.book.records.map (Commitment.cycle x)) with
    levels := { s1.levels with holdover := x.holdover } }

/-! ### Timers of a pulse -/

/-- The support timer of a FIRING record expires (R85). -/
def Commitment.endSupport (now : Nat) (c : Commitment) : Commitment :=
  match c.snapshot with
  | .trig _ _ ramp lockout =>
    c.mapLevel fun l => l.mapPhase fun
      | .firing _ => if 0 < ramp then .releasing (5 * ramp) else enterLockout now lockout
      | phase => phase
  | _ => c

/-- The record is FIRING, so its support timer is armed. -/
def Commitment.isFiring (c : Commitment) : Bool :=
  match c.phase with
  | some (.firing _) => true
  | _ => false

/-- An OVERRUN record with release ramp 0: it is removed as it leaves FIRING (R16, R85). -/
def Commitment.endsAtSupport (c : Commitment) : Bool :=
  match c.snapshot with
  | .trig _ _ ramp _ => c.isOverrun && decide (ramp = 0)
  | _ => false

/-- Change the record of an id. -/
def changeId (id : Nat) (f : Commitment → Commitment) (l : List Commitment) : List Commitment :=
  l.map fun c => if c.id = id then f c else c

/-- The effect of a support timer's expiry (R85); an id whose record is not FIRING has no timer. -/
def State.supportExpiry (id : Nat) (s : State) : State :=
  match s.book.find id with
  | none => s
  | some c =>
    if !c.isFiring then s
    else if c.endsAtSupport then s.removeCommitment c
    else s.setRecords (changeId id (Commitment.endSupport s.time) s.book.records)

/-- The lockout timer of a record in LOCKOUT expires: READY with count 0 (R87). -/
def endLockout : TrigPhase → TrigPhase
  | .lockout _ => .ready 0
  | phase => phase

/-- SUPPORT_TIMER_EXPIRY (R85). -/
def execSupportTimerExpiry (id : BitVec 16) (s : State) : Host.Outcome State Fault Refusal :=
  whenRunning (State.supportExpiry id.toNat) s

/-- LOCKOUT_TIMER_EXPIRY (R87). -/
def execLockoutTimerExpiry (id : BitVec 16) (s : State) : Host.Outcome State Fault Refusal :=
  whenRunning (fun s => s.setRecords
    (changeId id.toNat (fun c => c.mapLevel fun l => l.mapPhase endLockout) s.book.records)) s

/-! ### The operator target -/

/-- LEVEL's answer (R90). -/
def answerLevel (body : List Byte) (s : State) : State × Answer :=
  let target := clamp (fieldInt body 0 4) (-4096) 4096
  ({ s with levels :=
      { s.levels with target := target, age := .current, ageTimer := some (s.arm (secCounts 30)) } },
    .done (beInt 2 target))

/-- LEVEL (R90). -/
def execLevel (port : Port) (tag : Byte) (body : List Byte) (s : State) :
    Host.Outcome State Fault Refusal :=
  request .level port tag body (answerLevel body) s

/-- The 4 s mark of the age timer (R92, R93): passed once, while the age is CURRENT. -/
def State.ageLate (s : State) : State :=
  if s.levels.ageTimer.isSome && s.levels.age == .current then
    { s with levels := { s.levels with age := .late } }.post .levelLost
  else s

/-- The 30 s mark of the age timer (R92): the target is kept and the timer left unarmed. -/
def State.ageExpired (s : State) : State :=
  if s.levels.ageTimer.isSome then
    { s with levels := { s.levels with age := .expired, ageTimer := none } }
  else s

/-- LEVEL_AGE_LATE (R92). -/
def execLevelAgeLate (s : State) : Host.Outcome State Fault Refusal := whenRunning State.ageLate s

/-- LEVEL_AGE_EXPIRED (R92). -/
def execLevelAgeExpired (s : State) : Host.Outcome State Fault Refusal := whenRunning State.ageExpired s

end Sys2Proof.Machine
end

