-- ==== Sys2Proof/Machine/Book.lean ====
section
/-! DEFINITION. The Commitment Book (chapter 1): admission, withdrawal, release, the boundary, and the
book cursors. -/

namespace Sys2Proof.Machine

/-! ### Admission -/

/-- The key of a commitment (1.2). -/
def Commitment.key (c : Commitment) : Key := (c.start, c.seq)

/-- Keys compare on start slot first (1.2). -/
def keyLess (a b : Key) : Bool := decide (a.1 < b.1 ∨ (a.1 = b.1 ∧ a.2 < b.2))

/-- A new record takes the position its key gives (R5). -/
def insertByKey (c : Commitment) : List Commitment → List Commitment
  | [] => [c]
  | d :: rest => if keyLess c.key d.key then c :: d :: rest else d :: insertByKey c rest

/-- The id after an id: 65535 is followed by 1 (R6). -/
def nextId (id : Nat) : Nat := if 65535 ≤ id then 1 else id + 1

/-- The first candidate no record carries, tried in turn; 65 candidates always hold a free one (R6). -/
def freeId (used : List Nat) : Nat → Nat → Nat
  | 0, last => last
  | tries + 1, last =>
    if used.contains (nextId last) then freeId used tries (nextId last) else nextId last

/-- What one award record meets: admission with its id, or refusal with its reason and, for
NO_HEADROOM, the slot and side that failed (R8). -/
inductive AwardResult where
  | admitted (id : Nat)
  | refused (reason : Reason)
  | noHeadroom (slot : Nat) (side : Side)
  deriving DecidableEq, Repr

/-- The 8-byte reply entry of an award record (Table 10-4). -/
def AwardResult.bytes : AwardResult → List Byte
  | .admitted id => be 1 0 ++ be 2 id ++ be 4 0 ++ be 1 0
  | .refused reason => [reason.code] ++ be 2 0 ++ be 4 0 ++ be 1 0
  | .noHeadroom slot side => [Reason.noHeadroom.code] ++ be 2 0 ++ be 4 slot ++ be 1 side.code

/-- The parts of check 4 of R9 that do not concern the parameters: end ≥ start, each raw capacity at most
5,000,000, the floored capacities not both 0, and for TRIG a floored capacity down of 0. -/
def awardShape (r : AwardRecord) : Bool :=
  let capacity := r.capacity.map floor10
  decide (r.start ≤ r.stop) && decide (r.capacity.up ≤ 5000000) && decide (r.capacity.down ≤ 5000000)
    && !(capacity.up == 0 && capacity.down == 0)
    && !(Product.ofCode r.product == some .trig && capacity.down != 0)

/-- The checks of R9 on one award record, in their order: refusal, or the sequence and snapshot it is
admitted with. -/
def awardChecks (s : State) (r : AwardRecord) : Except AwardResult (Nat × Snapshot) :=
  if !s.clock.set then .error (.refused .noTime)
  else if r.start ≤ s.clock.slot then .error (.refused .tooLate)
  else if s.clock.slot + 192 < r.stop then .error (.refused .beyondHorizon)
  else if !awardShape r then .error (.refused .badField)
  else
    match awardSnapshot s.profile r with
    | none => .error (.refused .badField)
    | some snapshot =>
      match s.book.nextSeq with
      | none => .error (.refused .full)
      | some seq =>
        if 64 ≤ s.book.records.length then .error (.refused .full)
        else
          let capacity := r.capacity.map floor10
          match admissionTest s.plan (s.profile.nat .margin) r.start r.stop capacity
            (energyRequirement capacity snapshot) with
          | some (slot, side) => .error (.noHeadroom slot side)
          | none => .ok (seq, snapshot)

/-- The commitment an admitted award record becomes (R7, R10). -/
def AwardRecord.commitment (r : AwardRecord) (id seq : Nat) (snapshot : Snapshot) : Commitment where
  id := id
  marketRef := r.marketRef
  seq := seq
  start := r.start
  stop := r.stop
  snapshot := snapshot
  capacity := r.capacity.map floor10
  requirement := energyRequirement (r.capacity.map floor10) snapshot
  standing := .pending
  mark := .clear

/-- The sequence counter after a value is assigned: it does not wrap (R6). -/
def nextSequence (seq : Nat) : Option Nat := if maxWord ≤ seq then none else some (seq + 1)

/-- Admit a commitment (R10): it enters the book at its key, its sums join the rows it covers, and BOOK
is posted. -/
def State.enterBook (s : State) (c : Commitment) : State :=
  { s with
    book := ⟨insertByKey c s.book.records, nextSequence c.seq, c.id⟩
    plan := s.plan.mapRows (PlanRow.commit c) }.post .book

/-- One award record is taken (R8 to R10). -/
def State.takeAward (s : State) (r : AwardRecord) : State × AwardResult :=
  match awardChecks s r with
  | .error result => (s, result)
  | .ok (seq, snapshot) =>
    let id := freeId (s.book.records.map Commitment.id) 65 s.book.lastId
    (s.enterBook (r.commitment id seq snapshot), .admitted id)

/-- The records of a batch, in the order carried (R8). -/
def State.takeAwards : List AwardRecord → State → State × List AwardResult
  | [], s => (s, [])
  | r :: rest, s =>
    let (s1, result) := s.takeAward r
    let (s2, results) := State.takeAwards rest s1
    (s2, result :: results)

/-- AWARD's answer (R8): a batch of no record or of more than eight is refused BAD_FIELD. -/
def answerAward (body : List Byte) (s : State) : State × Answer :=
  let count := field body 0 1
  if count < 1 ∨ 8 < count then (s, .refused .badField)
  else
    let (s1, results) := State.takeAwards (awardRecords body) s
    (s1, .done (be 1 count ++ results.flatMap AwardResult.bytes))

/-- AWARD (R8). -/
def execAward (port : Port) (tag : Byte) (body : List Byte) (s : State) :
    Host.Outcome State Fault Refusal :=
  request .award port tag body (answerAward body) s

/-! ### Withdrawal and release -/

/-- WITHDRAW's answer (R14). -/
def answerWithdraw (body : List Byte) (s : State) : State × Answer :=
  match s.book.find (field body 0 2) with
  | none => (s, .refused .notFound)
  | some c => if c.isPending then (s.removeCommitment c, .done []) else (s, .refused .wrongState)

/-- WITHDRAW (R14). -/
def execWithdraw (port : Port) (tag : Byte) (body : List Byte) (s : State) :
    Host.Outcome State Fault Refusal :=
  request .withdraw port tag body (answerWithdraw body) s

/-- RELEASE's answer (R15). -/
def answerRelease (body : List Byte) (s : State) : State × Answer :=
  match s.book.find (field body 0 2) with
  | none => (s, .refused .notFound)
  | some c => if c.isPending then (s, .refused .wrongState) else (s.removeCommitment c, .done [])

/-- RELEASE (R15). -/
def execRelease (port : Port) (tag : Byte) (body : List Byte) (s : State) :
    Host.Outcome State Fault Refusal :=
  request .release port tag body (answerRelease body) s

/-! ### The boundary -/

/-- An IN_FORCE record whose end lies before slot `n` (R11). -/
def Commitment.expired (n : Nat) (c : Commitment) : Bool :=
  match c.standing with
  | .inForce _ => decide (c.stop < n)
  | _ => false

/-- A TRIG record in FIRING or RELEASING: at its end it becomes OVERRUN (R11). -/
def Commitment.inPulse (c : Commitment) : Bool :=
  match c.phase with
  | some (.firing _) => true
  | some (.releasing _) => true
  | _ => false

/-- An IN_FORCE record enters OVERRUN with its level record as it is (R11, R88). -/
def Commitment.overrun (c : Commitment) : Commitment :=
  match c.standing with
  | .inForce l => { c with standing := .overrun l }
  | _ => c

/-- Ending what has expired at a boundary into slot `n` (R11): removal, or OVERRUN. -/
def State.endExpired (n : Nat) (s : State) : State :=
  let expired := s.book.records.filter (Commitment.expired n)
  let s1 := s.removeAll (expired.filter fun c => !c.inPulse)
  (s1.setRecords (s1.book.records.map fun c =>
      if c.expired n && c.inPulse then c.overrun else c)).postIf (!expired.isEmpty) .book

/-- A PENDING record whose start slot is `n` (R12). -/
def Commitment.due (n : Nat) (c : Commitment) : Bool := c.isPending && c.start == n

/-- A record placed in force with its new level record (R12, R78). -/
def Commitment.begin (c : Commitment) : Commitment :=
  { c with standing := .inForce (newLevelRecord c.snapshot) }

/-- Starting what is due at a boundary into slot `n` (R12, R78). -/
def State.startDue (n : Nat) (s : State) : State :=
  (s.setRecords (s.book.records.map fun c => if c.due n then c.begin else c)).postIf
    (s.book.records.any (Commitment.due n)) .book

/-- A slot-boundary event into slot `n`, taken by the book, the Headroom Engine and the Product Level
Unit (R2, R11, R12, R49, R78). -/
def State.boundary (n : Nat) (s : State) : State :=
  let s1 := (s.endExpired n).startDue n
  { s1 with plan := s1.plan.shift s1.profile s1.fleet n }

/-- The boundaries of a run, into the slots after `held`, in increasing order (R13). -/
def State.boundaries : Nat → Nat → State → State
  | 0, _, s => s
  | k + 1, held, s => State.boundaries k (held + 1) (s.boundary (held + 1))

/-! ### Reading the book -/

/-- BOOK-OPEN's answer (R17). -/
def answerBookOpen (port : Port) (s : State) : State × Answer :=
  (s.setPort port { s.port port with bookCursor := .opened none }, .done (be 1 s.book.records.length))

/-- The record with the least key above a last key; the book stands in key order (R17). -/
def Book.above (b : Book) (last : Option Key) : Option Commitment :=
  match last with
  | none => b.records.head?
  | some key => b.records.find? fun c => keyLess key c.key

/-- BOOK-NEXT's answer (R17). -/
def answerBookNext (port : Port) (s : State) : State × Answer :=
  match (s.port port).bookCursor with
  | .closed => (s, .refused .notOpen)
  | .opened last =>
    match s.book.above last with
    | none => (s, .done (be 1 1))
    | some c =>
      (s.setPort port { s.port port with bookCursor := .opened (some c.key) },
        .done (be 1 0 ++ c.bytes))

/-- BOOK-OPEN (R17). -/
def execBookOpen (port : Port) (tag : Byte) (body : List Byte) (s : State) :
    Host.Outcome State Fault Refusal :=
  request .bookOpen port tag body (answerBookOpen port) s

/-- BOOK-NEXT (R17). -/
def execBookNext (port : Port) (tag : Byte) (body : List Byte) (s : State) :
    Host.Outcome State Fault Refusal :=
  request .bookNext port tag body (answerBookNext port) s

end Sys2Proof.Machine
end

