-- ==== Sys2Proof/Machine/Clock.lean ====
section
/-! DEFINITION. The Slot Clock (1.1): TIME-SYNC, the second and the boundary of its own advance. -/

namespace Sys2Proof.Machine

/-- The latest slot TIME-SYNC can set (R1, R3). -/
def lastSyncSlot : Nat := 4294967102

/-- Set the clock's slot and second, the phase to 0 (R3, R4). -/
def State.setClock (s : State) (slot second : Nat) : State := { s with clock := ⟨true, slot, second, 0⟩ }

/-- TIME-SYNC's answer (R3, R4). -/
def answerTimeSync (body : List Byte) (s : State) : State × Answer :=
  let slot := field body 0 4
  let second := field body 4 2
  if 899 < second ∨ lastSyncSlot < slot then (s, .refused .badField)
  else if !s.clock.set then
    (({ s.setClock slot second with plan := Plan.build s.profile s.fleet slot }).post .clock,
      .done (be 4 slot ++ be 2 second))
  else if slot < s.clock.slot then (s, .refused .backward)
  else
    ((State.boundaries (slot - s.clock.slot) s.clock.slot s).setClock slot second,
      .done (be 4 slot ++ be 2 second))

/-- TIME-SYNC (R3, R4). -/
def execTimeSync (port : Port) (tag : Byte) (body : List Byte) (s : State) :
    Host.Outcome State Fault Refusal :=
  request .timeSync port tag body (answerTimeSync body) s

/-- The clock's own advance past second 899 (R1, R2): a boundary into the next slot. In the last slot the
second holds at 899 and no boundary is raised. -/
def State.passBoundary (s : State) : State :=
  if !s.clock.set then s
  else if maxWord ≤ s.clock.slot then s.setClock s.clock.slot 899
  else State.boundary (s.clock.slot + 1) (s.setClock (s.clock.slot + 1) 0)

/-- The phase passes from 999 to 0 and the second advances (R1). At second 899 the passage is the
boundary's, but in the last slot, where the second holds. -/
def State.passSecond (s : State) : State :=
  if !s.clock.set then s
  else if s.clock.second < 899 then s.setClock s.clock.slot (s.clock.second + 1)
  else if maxWord ≤ s.clock.slot then s.setClock s.clock.slot s.clock.second
  else s

/-- SLOT_BOUNDARY (R1, R2). -/
def execSlotBoundary (s : State) : Host.Outcome State Fault Refusal := whenRunning State.passBoundary s

/-- SECOND_IN_SLOT_ADVANCE (R1). -/
def execSecondInSlotAdvance (s : State) : Host.Outcome State Fault Refusal :=
  whenRunning State.passSecond s

end Sys2Proof.Machine
end

