-- ==== Sys2Proof/Machine/Meter.lean ====
section
/-! DEFINITION. The Line Frequency Meter (4.1 to 4.3): edges, the loss compare, relayed readings. -/

namespace Sys2Proof.Machine

/-- The band of valid periods, ticks of 100 ns (R62). -/
def validPeriod (nomfHigh : Bool) (p : Nat) : Bool :=
  if nomfHigh then decide (153846 ≤ p ∧ p ≤ 181818) else decide (181818 ≤ p ∧ p ≤ 222222)

/-- The frequency of a full window, mHz: round half up of 5 × 10^10 / S (R63). -/
def measuredFrequency (sum : Nat) : Nat := (10 ^ 11 + sum) / (2 * sum)

/-- A valid period joins the window, the oldest of five leaving first (R63). -/
def joinWindow (window : List Nat) (p : Nat) : List Nat :=
  (if 5 ≤ window.length then window.drop 1 else window) ++ [p]

/-- The meter's state becomes `m`: FREQ is posted on a change of state (R68), and Left VALID is handed
out when the meter passes from VALID to INVALID or LOST (R67). -/
def State.moveMeter (s : State) (m : Meter) : State :=
  let left := s.meter.state == .valid && (m.state == .invalid || m.state == .lost)
  let s1 := { s with meter := m }.postIf (m.state != s.meter.state) .freq
  if left then s1.takeLeftValid else s1

/-- A measurement is the latest measurement and is handed to the Product Level Unit (R67). -/
def State.measure (s : State) (f : Nat) : State :=
  { s with meter := { s.meter with latest := some f } }.takeMeasurement f

/-- A valid period (R63). -/
def State.goodPeriod (s : State) (p : Nat) : State :=
  let window := joinWindow s.meter.window p
  let m := { s.meter with badRun := 0, window := window }
  match s.meter.state with
  | .acquiring =>
    if window.length = 5 then
      (s.moveMeter { m with state := .valid }).measure (measuredFrequency window.sum)
    else s.moveMeter m
  | .valid => (s.moveMeter m).measure (measuredFrequency window.sum)
  | .invalid => s.moveMeter { m with state := .acquiring }
  | .lost => s.moveMeter m

/-- An invalid period (R64). -/
def State.badPeriod (s : State) : State :=
  let run := min 255 (s.meter.badRun + 1)
  let m := { s.meter with badRun := run }
  match s.meter.state with
  | .acquiring | .valid =>
    if 3 ≤ run then s.moveMeter { m with state := .invalid, window := [], latest := none }
    else s.moveMeter m
  | .invalid | .lost => s.moveMeter m

/-- An edge that forms no period (R61, R66): a LOST meter becomes ACQUIRING with an empty window and a
run of 0. -/
def State.firstEdge (s : State) : State :=
  if s.meter.state == .lost then
    s.moveMeter { s.meter with state := .acquiring, window := [], badRun := 0 }
  else s

/-- A rising edge at LREF in LOCAL with the counter at `capture` (R61); in RELAYED edges are not captured
(R70). -/
def State.edge (capture : Capture) (s : State) : State :=
  if s.straps.fsrcHigh then s
  else
    let s1 := { s with meter := { s.meter with counter := capture } }
    let s2 :=
      match s.meter.previous with
      | none => s1.firstEdge
      | some previous =>
        let p := (capture - previous).toNat
        if validPeriod s.straps.nomfHigh p then s1.goodPeriod p else s1.badPeriod
    { s2 with meter := { s2.meter with previous := some capture, lossCompare := some capture } }

/-- The loss compare expires (R65): from any state but LOST the meter becomes LOST. -/
def State.lossExpiry (s : State) : State :=
  if s.meter.lossCompare.isNone then s
  else if s.meter.state == .lost then { s with meter := { s.meter with lossCompare := none } }
  else
    s.moveMeter { s.meter with
      state := .lost, window := [], latest := none, badRun := 0, previous := none, lossCompare := none }

/-- A relayed reading is in band (R71). -/
def inBand (nominal f : Nat) : Bool := decide (nominal - 5000 ≤ f ∧ f ≤ nominal + 5000)

/-- A relayed reading (R71): every reading rearms the silence timer. -/
def State.reading (f : Nat) (s : State) : State :=
  let m := { s.meter with silence := some (s.arm (secCounts 1)) }
  if inBand s.nominal f then (s.moveMeter { m with badRun := 0, state := .valid }).measure f
  else
    let run := min 255 (s.meter.badRun + 1)
    if decide (3 ≤ run) && s.meter.state != .invalid then
      s.moveMeter { m with badRun := run, state := .invalid, latest := none }
    else s.moveMeter { m with badRun := run }

/-- FREQ's answer (R70): the meter state after the reading, and TAKEN or BAD. -/
def answerFreq (body : List Byte) (s : State) : State × Answer :=
  let f := field body 0 4
  let s1 := State.reading f s
  (s1, .done (be 1 s1.meter.state.code ++ be 1 (if inBand s.nominal f then 0 else 1)))

/-- The silence timer expires (R72): a meter in VALID or INVALID becomes LOST; in LOST only the timer
is left unarmed (log entry 13). -/
def State.silenceExpiry (s : State) : State :=
  if s.meter.silence.isNone then s
  else
    let m := { s.meter with silence := none }
    match s.meter.state with
    | .valid | .invalid => s.moveMeter { m with state := .lost, latest := none, badRun := 0 }
    | .acquiring | .lost => { s with meter := m }

/-- LREF_EDGE (R61). -/
def execLrefEdge (capture : Capture) (s : State) : Host.Outcome State Fault Refusal :=
  whenRunning (State.edge capture) s

/-- LOSS_COMPARE_EXPIRY (R65). -/
def execLossCompareExpiry (s : State) : Host.Outcome State Fault Refusal := whenRunning State.lossExpiry s

/-- SILENCE_TIMER_EXPIRY (R72). -/
def execSilenceTimerExpiry (s : State) : Host.Outcome State Fault Refusal :=
  whenRunning State.silenceExpiry s

/-- FREQ (R70, R71). -/
def execFreq (port : Port) (tag : Byte) (body : List Byte) (s : State) :
    Host.Outcome State Fault Refusal :=
  request .freq port tag body (answerFreq body) s

end Sys2Proof.Machine
end

