-- ==== Sys2Proof/Machine/Delivery.lean ====
section
/-! DEFINITION. The Delivery Monitor (chapter 9): episodes, the delivered sum, short cycles, the log. -/

namespace Sys2Proof.Machine

/-! ### Opening -/

/-- A unit's baseline at an opening: LIVE units only (R141). -/
def UnitRecord.takeBaseline (u : UnitRecord) : UnitRecord :=
  match u.link, u.report with
  | .live, some r => { u with baseline := some (r.power - u.restoration) }
  | _, _ => u

/-- The working items of an episode at its opening (R140, R145). -/
def Episode.opening (number slot second : Nat) : Episode where
  number := number
  openSlot := slot
  openSecond := second
  energies := ⟨0, 0, 0, 0, 0⟩
  peak := 0
  contributors := []
  overflow := false
  shortCycles := 0
  delivered := 0
  previous := 0
  grace := 10
  shortRun := 0
  reported := false
  quiet := 0
  lastRequired := 0
  lastPermitted := 0
  lastAsked := 0

/-- A running unit test ends ABORTED as an episode opens, and TEST is posted (R37, R140). -/
def State.abortTests (s : State) : State :=
  { s with fleet := Fleet.mapUnits s.fleet UnitRecord.abortTest }.postIf
    (Fleet.underTest s.fleet).isSome .test

/-- The opening of an episode with a number (R140): the number is taken, the stamp and the baselines are
written, EPISODE_OPEN is posted and a running test is aborted. -/
def State.openEpisode (number : Nat) (s : State) : State :=
  ({ s with
      delivery :=
        { s.delivery with
          episode := some (Episode.opening number s.clock.slot s.clock.second)
          nextNumber := if maxWord ≤ number then none else some (number + 1) }
      fleet := Fleet.mapUnits s.fleet UnitRecord.takeBaseline }.post .episodeOpen).abortTests

/-! ### One result -/

/-- The credit of a cycle (R143). -/
def credit (permitted delivered : Int) : Nat :=
  min permitted.natAbs (delivered * permitted.sign).toNat

/-- The accumulators after one cycle (R143), each holding at its 64-bit maximum. -/
def Accumulators.cycle (a : Accumulators) (required permitted : Nat) (c : Nat) : Accumulators :=
  ⟨satAdd maxLong a.required required, satAdd maxLong a.permitted permitted,
    satAdd maxLong a.gridLimited (required - permitted), satAdd maxLong a.delivered c,
    satAdd maxLong a.shortfall (permitted - c)⟩

/-- One commitment of a result joins the contributors (R144). -/
def contribute (x : List Contributor × Bool) (c : Call) : List Contributor × Bool :=
  if x.1.any fun e => e.id == c.id then
    (x.1.map fun e => if e.id = c.id then { e with energy := e.energy + c.power.natAbs } else e, x.2)
  else if x.1.length < 8 then (x.1 ++ [⟨c.id, c.product, c.power.natAbs⟩], x.2)
  else (x.1, true)

/-- The threshold of a short cycle (R146). -/
def shortThreshold (p : Profile) (permitted : Nat) : Nat :=
  max (p.nat .toleranceFloor) (permitted * p.nat .tolerance / 4096)

/-- Grace, short cycles and short runs of one result (R145, R146): the items after it, and whether
SHORTFALL is posted. `opening` marks the result that opened the episode. -/
def Episode.judge (e : Episode) (p : Profile) (opening : Bool) (permitted c : Nat) : Episode × Bool :=
  if opening || decide (e.previous < permitted) then
    ({ e with grace := 10, shortRun := 0, reported := false }, false)
  else if 0 < e.grace then ({ e with grace := e.grace - 1 }, false)
  else if shortThreshold p permitted < permitted - c then
    let run := satAdd 255 e.shortRun 1
    let report := decide (p.nat .shortRunLimit ≤ run) && !e.reported
    ({ e with
        shortCycles := satAdd maxWord e.shortCycles 1
        shortRun := run
        reported := e.reported || report }, report)
  else ({ e with shortRun := 0, reported := false }, false)

/-- The accounting of one dispatch result in an open episode (R143 to R146). -/
def Episode.accumulate (e : Episode) (p : Profile) (opening : Bool) (r : DispatchResult) :
    Episode × Bool :=
  let c := credit r.permitted e.delivered
  let permitted := r.permitted.natAbs
  let listed := r.calls.foldl contribute (e.contributors, e.overflow)
  let judged :=
    { e with
      energies := e.energies.cycle r.required.natAbs permitted c
      peak := max e.peak permitted
      contributors := listed.1
      overflow := listed.2
      lastRequired := r.required
      lastPermitted := r.permitted
      lastAsked := r.asked }.judge p opening permitted c
  ({ judged.1 with previous := permitted }, judged.2)

/-- The quiet count after a result (R147). -/
def Episode.countQuiet (e : Episode) (required : Int) : Episode :=
  { e with quiet := if required = 0 then e.quiet + 1 else 0 }

/-- The quiet period has been reached (R147). -/
def Episode.ends (e : Episode) (p : Profile) : Bool := decide (5 * p.nat .quietPeriod ≤ e.quiet)

/-! ### Closing -/

/-- The accumulators as Wh (R143). -/
def Accumulators.inWattHours (a : Accumulators) : Accumulators :=
  ⟨wattHours a.required, wattHours a.permitted, wattHours a.gridLimited, wattHours a.delivered,
    wattHours a.shortfall⟩

/-- The outcome at a closing (R148). -/
def Episode.outcome (e : Episode) (p : Profile) : EpisodeOutcome :=
  if e.energies.shortfall ≤ e.energies.permitted * p.nat .tolerance / 4096 then .met else .short

/-- The record a closing forms (R148, Table 9-3). -/
def Episode.record (e : Episode) (p : Profile) (slot second : Nat) : EpisodeRecord where
  number := e.number
  openSlot := e.openSlot
  openSecond := e.openSecond
  closeSlot := slot
  closeSecond := second
  contributors := e.contributors.map fun c => { c with energy := wattHours c.energy }
  overflow := e.overflow
  peak := e.peak
  energies := e.energies.inWattHours
  shortCycles := e.shortCycles
  outcome := e.outcome p
  gridLimited := decide (0 < e.energies.gridLimited)

/-- A closing record is appended, the oldest of 32 removed first (R149). -/
def appendLog (log : List EpisodeRecord) (r : EpisodeRecord) : List EpisodeRecord :=
  (if 32 ≤ log.length then log.drop 1 else log) ++ [r]

def UnitRecord.dropBaseline (u : UnitRecord) : UnitRecord := { u with baseline := none }

/-- The closing of an episode (R148). -/
def State.closeEpisode (e : Episode) (s : State) : State :=
  { s with
    delivery :=
      { s.delivery with
        episode := none
        log := appendLog s.delivery.log (e.record s.profile s.clock.slot s.clock.second) }
    fleet := Fleet.mapUnits s.fleet UnitRecord.dropBaseline }.post .episodeClosed

/-- One result accumulated in the open episode `e`, which closes when its quiet period is reached (R139,
R147). -/
def State.account (e : Episode) (opening : Bool) (r : DispatchResult) (s : State) : State :=
  let counted := e.accumulate s.profile opening r
  let e1 := counted.1.countQuiet r.required
  let s1 := { s with delivery := { s.delivery with episode := some e1 } }.postIf counted.2 .shortfall
  if e1.ends s.profile then s1.closeEpisode e1 else s1

/-- The Delivery Monitor takes a dispatch result (R139). -/
def State.takeResult (r : DispatchResult) (s : State) : State :=
  match s.delivery.episode with
  | some e => s.account e false r
  | none =>
    if r.required = 0 then s
    else
      match s.delivery.nextNumber with
      | none => s
      | some number =>
        let s1 := s.openEpisode number
        s1.account (Episode.opening number s.clock.slot s.clock.second) true r

/-! ### The delivered sum -/

/-- A unit's contribution to the delivered sum (R142). -/
def UnitRecord.contribution (u : UnitRecord) : Int :=
  match u.baseline, u.report with
  | some b, some r => r.power - b - u.restoration
  | _, _ => 0

/-- The delivered sum formed afresh from the units that hold a baseline (R142). -/
def Fleet.delivered (f : Fleet) : Int := ((Fleet.units f).map UnitRecord.contribution).sum

/-- The Delivery Monitor takes a round completion (R142). -/
def State.updateDelivered (s : State) : State :=
  match s.delivery.episode with
  | none => s
  | some e =>
    { s with delivery :=
        { s.delivery with episode := some { e with delivered := Fleet.delivered s.fleet } } }

/-! ### Reading -/

/-- LOG-OPEN's answer (R150). -/
def answerLogOpen (port : Port) (s : State) : State × Answer :=
  let log := s.delivery.log
  (s.setPort port { s.port port with logCursor := .opened none },
    .done (be 1 log.length ++ be 4 ((log.head?.map EpisodeRecord.number).getD 0)
      ++ be 4 ((log.getLast?.map EpisodeRecord.number).getD 0)))

/-- The oldest record numbered above a last number (R150). -/
def logAbove (log : List EpisodeRecord) (last : Option Nat) : Option EpisodeRecord :=
  match last with
  | none => log.head?
  | some n => log.find? fun r => decide (n < r.number)

/-- LOG-NEXT's answer (R150). -/
def answerLogNext (port : Port) (s : State) : State × Answer :=
  match (s.port port).logCursor with
  | .closed => (s, .refused .notOpen)
  | .opened last =>
    match logAbove s.delivery.log last with
    | none => (s, .done (be 1 1))
    | some r =>
      (s.setPort port { s.port port with logCursor := .opened (some r.number) },
        .done (be 1 0 ++ r.bytes))

/-- How many unit records hold a baseline (R151). -/
def Fleet.baselines (f : Fleet) : Nat := ((Fleet.units f).filter fun u => u.baseline.isSome).length

/-- DELIVERY-READ's answer (R151). -/
def answerDeliveryRead (s : State) : State × Answer :=
  match s.delivery.episode with
  | none => (s, .done (be 1 1))
  | some e => (s, .done (be 1 0 ++ e.bytes (Fleet.baselines s.fleet)))

/-- LOG-OPEN (R150). -/
def execLogOpen (port : Port) (tag : Byte) (body : List Byte) (s : State) :
    Host.Outcome State Fault Refusal :=
  request .logOpen port tag body (answerLogOpen port) s

/-- LOG-NEXT (R150). -/
def execLogNext (port : Port) (tag : Byte) (body : List Byte) (s : State) :
    Host.Outcome State Fault Refusal :=
  request .logNext port tag body (answerLogNext port) s

/-- DELIVERY-READ (R151). -/
def execDeliveryRead (port : Port) (tag : Byte) (body : List Byte) (s : State) :
    Host.Outcome State Fault Refusal :=
  request .deliveryRead port tag body answerDeliveryRead s

end Sys2Proof.Machine
end

