-- ==== Sys2Proof/Machine/Thermal.lean ====
section
/-! DEFINITION. The Feeder Thermal Model (chapter 6): the one-second update, the zones, the throttle. -/

namespace Sys2Proof.Machine

/-- The values of the PRESENT phase channels (R98). -/
def Analog.phases (a : Analog) : List Int :=
  ([a.ia, a.ib, a.ic].filter ChannelRecord.present).map ChannelRecord.value

/-- The loading ratio of the largest phase current (R98). -/
def loadingRatio (p : Profile) (phases : List Int) : Nat :=
  let largest := (phases.foldl max 0).toNat
  min 8192 (largest * 4096 / p.nat .ratedCurrent)

/-- The steady-state rise of a loading ratio (R99). -/
def steadyRise (p : Profile) (l : Nat) : Nat := p.nat .ratedRise * l ^ 2 / 16777216

/-- The step of θ (R99): truncated toward zero, then clamped. -/
def nextTheta (p : Profile) (l : Nat) (theta : Int) : Int :=
  clamp (theta + (p.get .ambient + steadyRise p l - theta).tdiv (p.get .timeConstant)) (-40000) 200000

/-- Table 6-2: the zone after θ, from the zone held (R101). -/
def nextZone (lo hi crit theta : Int) : Zone → Zone
  | .normal => if crit ≤ theta then .critical else if hi ≤ theta then .warning else .normal
  | .warning => if crit ≤ theta then .critical else if lo ≤ theta then .warning else .normal
  | .critical => if hi ≤ theta then .critical else .warning

/-- The throttled direction of the PNET record (R103). -/
def throttledBy (pnet : ChannelRecord) : Throttled :=
  if pnet.present then if pnet.value < 0 then .up else .down else .both

/-- The model after one update (R97 steps 1 to 5). -/
def Thermal.updated (t : Thermal) (p : Profile) (a : Analog) (timer : Timer) : Thermal :=
  let phases := a.phases
  let theta := if phases.isEmpty then p.get .ambient else nextTheta p (loadingRatio p phases) t.theta
  let zone :=
    if phases.isEmpty then .normal
    else nextZone (p.get .thetaLo) (p.get .thetaHi) (p.get .thetaCrit) theta t.zone
  { theta := theta
    zone := zone
    lo := p.get .thetaLo
    hi := p.get .thetaHi
    crit := p.get .thetaCrit
    direction := throttledBy a.pnet
    factor := p.nat .throttle
    timer := some timer }

/-- The update, taken as one whole event (R97); THERMAL is posted on a change of zone (R102). -/
def State.thermalUpdate (s : State) : State :=
  let t := s.thermal.updated s.profile s.analog (s.arm (secCounts 1))
  { s with thermal := t }.postIf (t.zone != s.thermal.zone) .thermal

/-- A direction of fleet power is throttled (R104). -/
def Thermal.throttles (t : Thermal) (upward : Bool) : Bool :=
  match t.direction with
  | .up => upward
  | .down => !upward
  | .both => true

/-- The scale factor of a direction in 1/4096 (R104). -/
def Thermal.scale (t : Thermal) (upward : Bool) : Nat :=
  if t.throttles upward then
    match t.zone with
    | .normal => 4096
    | .warning => t.factor
    | .critical => 0
  else 4096

/-- A power scaled by the factor of its direction, truncated toward zero (R104, R110). -/
def Thermal.permit (t : Thermal) (power : Int) : Int := (power * t.scale (decide (0 < power))).tdiv 4096

/-- THERMAL_UPDATE (R97). -/
def execThermalUpdate (s : State) : Host.Outcome State Fault Refusal := whenRunning State.thermalUpdate s

end Sys2Proof.Machine
end

