-- ==== Sys2Proof/Machine/Apportion.lean ====
section
/-! DEFINITION. The Dispatch Apportioner (chapter 7): the fleet sum, the weights, the shares, the
restoration, the setpoints and the dispatch cycle. -/

namespace Sys2Proof.Machine

/-! ### The sums -/

/-- R: the sum of the required powers in the list (R109). -/
def sumPowers (list : List LevelEntry) : Int := (list.map LevelEntry.power).sum

/-- An entry of the cycle computation's list as the dispatch result carries it (R120). -/
def LevelEntry.call (e : LevelEntry) : Call := ⟨e.id, e.product, e.power⟩

/-- A unit's weights (R111). -/
def UnitRecord.weight (u : UnitRecord) : Sides :=
  if u.eligible then
    match u.mode with
    | .plain (.manual d) => u.live.min d
    | _ => u.live
  else Sides.zero

/-- W_up and W_dn (R111). -/
def Fleet.weights (f : Fleet) : Sides := Sides.sum ((Fleet.units f).map UnitRecord.weight)

/-- R″ from R′ and the weight sums (R112). -/
def fleetCap (permitted : Int) (w : Sides) : Int := trunc10 (clamp permitted (-(w.down : Int)) w.up)

/-! ### The shares -/

/-- The direction of apportionment (R113). -/
def shareSide (asked : Int) : Side := if 0 < asked then .up else .down

/-- The proportional magnitude of a weight (R113). -/
def proportional (asked weight total : Nat) : Nat := if weight = 0 then 0 else floor10 (asked * weight / total)

/-- The table indices of the remainder pass, beginning at the rotation pointer (R114). -/
def passOrder (rotation : Nat) (addresses : List Nat) : List Nat :=
  (addresses.filter fun a => decide (rotation ≤ a)) ++ addresses.filter fun a => decide (a < rotation)

/-- The remainder pass hands out 10 W at a time to the indices it visits until nothing is left (R114). -/
def remainderPass : List Nat → Nat → List Nat
  | [], _ => []
  | a :: rest, rem => if rem = 0 then [] else a :: remainderPass rest (rem - 10)

/-- The weight of an entry in a direction. -/
def entryWeight (side : Side) (e : Nat × UnitRecord) : Nat := e.2.weight.get side

/-- What the flooring lost (R113). -/
def remainder (f : Fleet) (asked : Int) : Nat :=
  let side := shareSide asked
  let total := (Fleet.weights f).get side
  asked.natAbs - (f.map fun e => proportional asked.natAbs (entryWeight side e) total).sum

/-- The addresses that take 10 W of remainder (R114). -/
def takers (f : Fleet) (rotation : Nat) (asked : Int) : List Nat :=
  let side := shareSide asked
  remainderPass
    (passOrder rotation ((f.filter fun e => decide (entryWeight side e ≠ 0)).map Prod.fst))
    (remainder f asked)

/-- The participation component of an entry (R113, R114). -/
def participation (f : Fleet) (rotation : Nat) (asked : Int) (e : Nat × UnitRecord) : Int :=
  let side := shareSide asked
  let share := proportional asked.natAbs (entryWeight side e) ((Fleet.weights f).get side)
  asked.sign * ((share + if (takers f rotation asked).contains e.1 then 10 else 0 : Nat) : Int)

/-- The rotation pointer after a cycle (R115). -/
def advanceIndex (i : Nat) : Nat := if 240 ≤ i then 1 else i + 1

/-! ### Restoration -/

/-- The restoration condition (R116). -/
def State.restores (s : State) : Bool :=
  !s.episodeOpen && s.meter.state == .valid && decide (0 < s.profile.get .restoration)

/-- The restoration component of an eligible unit (R117). -/
def restorationPower (p : Profile) (t : Thermal) (r : Report) : Int :=
  let toTarget := (((r.soc : Int) - energyTarget p r) * 60).tdiv (p.get .restorationTime)
  let discharge := r.maxDischarge * p.nat .restoration / 100
  let charge := r.maxCharge * p.nat .restoration / 100
  trunc10 (t.permit (trunc10 (clamp toTarget (-(charge : Int)) discharge)))

/-- A unit's restoration component at a cycle (R116, R117). -/
def restorationOf (restoring : Bool) (p : Profile) (t : Thermal) (u : UnitRecord) : Int :=
  match restoring && u.eligible, u.report with
  | true, some r => restorationPower p t r
  | _, _ => 0

/-! ### Setpoints -/

/-- A power clamped to a report's limits, [−max charge, +max discharge] (R31, R118). -/
def clampToLimits (r : Report) (power : Int) : Int := clamp power (-(r.maxCharge : Int)) r.maxDischarge

/-- The setpoint written by a cycle (R118, R119). -/
def composeSetpoint (u : UnitRecord) (participation restoration : Int) : Int :=
  match u.report with
  | none => 0
  | some r =>
    if u.eligible then clampToLimits r (participation + restoration)
    else
      match u.mode with
      | .test t => if u.link == .live then clampToLimits r t.power else 0
      | .plain _ => 0

/-- The components and setpoint of an entry after a cycle (steps 5 to 7 of R108). -/
def dispatchUnit (f : Fleet) (rotation : Nat) (asked : Int) (restoring : Bool) (p : Profile)
    (t : Thermal) (e : Nat × UnitRecord) : Nat × UnitRecord :=
  let share := participation f rotation asked e
  let back := restorationOf restoring p t e.2
  (e.1, { e.2 with
    participation := share, restoration := back, setpoint := composeSetpoint e.2 share back })

/-! ### The cycle -/

/-- The dispatch result of a cycle (R109, R110, R112, R120). -/
def formResult (list : List LevelEntry) (t : Thermal) (f : Fleet) : DispatchResult :=
  let required := sumPowers list
  let permitted := t.permit required
  ⟨required, permitted, fleetCap permitted (Fleet.weights f),
    (list.filter fun e => decide (e.power ≠ 0)).map LevelEntry.call⟩

/-- Steps 2 to 8 of a dispatch cycle on the list the cycle computation returned (R108). -/
def State.apportion (s : State) : State :=
  let r := formResult s.book.levelList s.thermal s.fleet
  { s with
    fleet := s.fleet.map
      (dispatchUnit s.fleet s.apportioner.rotation r.asked s.restores s.profile s.thermal)
    apportioner := ⟨some (s.arm (msCounts 200)), r, advanceIndex s.apportioner.rotation⟩ }

/-- A dispatch cycle, taken as one whole operation (R107, R108). R116 admits a meter event between the
Product Level Unit's read of the meter at step 1 and the Dispatch Apportioner's at step 6; that this
model's two reads always agree is the model's choice (log entry 22). -/
def State.dispatchCycle (s : State) : State :=
  let s1 := s.cycleComputation.apportion
  s1.takeResult s1.apportioner.result

/-- DISPATCH_CYCLE (R108). -/
def execDispatchCycle (s : State) : Host.Outcome State Fault Refusal := whenRunning State.dispatchCycle s

end Sys2Proof.Machine
end

