-- ==== Sys2Proof/Machine/Fleet.lean ====
section
/-! DEFINITION. The Fleet Table (chapter 2): enrolment, mode changes, link state, reports, the unit test,
and the rebuilding of the table by a profile load. -/

namespace Sys2Proof.Machine

/-! ### Enrolment -/

/-- The declared headroom two 4-byte fields carry. -/
def declaredFields (body : List Byte) : Sides := ⟨field body 3 4, field body 7 4⟩

/-- ENROL's answer (R23). -/
def answerEnrol (body : List Byte) (s : State) : State × Answer :=
  let presence := field body 2 1
  let g := if presence.testBit 1 then field body 11 2 else 4096
  match addressOf body, enrolMode (field body 1 1) (presence.testBit 0) (declaredFields body) with
  | some a, some mode =>
    if 4096 < g then (s, .refused .badField)
    else if (Fleet.get s.fleet a).isSome then (s, .refused .inUse)
    else
      let u := UnitRecord.enrolled mode g
      ((s.setUnit a u).post .unit, .done (u.bytes s.time a))
  | _, _ => (s, .refused .badField)

/-- The visit in progress is in SENDING or AWAITING, so a record that leaves the table marks it (R134). -/
def LinkPhase.visiting : LinkPhase → Bool
  | .sending => true
  | .awaiting _ => true
  | .quiet _ _ => false
  | .pacing => false

/-- Set the record-removed mark of the visit in progress when its address satisfies a condition (R134). -/
def Link.markRemoved (l : Link) (leaves : Nat → Bool) : Link :=
  if l.phase.visiting then
    { l with visit := l.visit.map fun v => { v with removed := v.removed || leaves v.address } }
  else l

/-- RETIRE's answer (R24, R134). -/
def answerRetire (body : List Byte) (s : State) : State × Answer :=
  match addressOf body with
  | none => (s, .refused .badField)
  | some a =>
    match Fleet.get s.fleet a with
    | none => (s, .refused .notFound)
    | some u =>
      (({ s with
          fleet := Fleet.erase s.fleet a
          link := s.link.markRemoved fun b => b == a }.postIf u.inTest .test).post .unit, .done [])

/-- The record after a UNIT-MODE (R25). -/
def UnitRecord.withMode (u : UnitRecord) (mode : EnrolMode) (clearLow : Bool) : UnitRecord :=
  let u1 := { u with
    mode := .plain mode
    bars := if clearLow then { u.bars with lowResponse := false } else u.bars }
  if mode = .off then u1.zeroed else u1

/-- The body of a UNIT-MODE reply (Table 10-3). -/
def UnitRecord.modeBytes (u : UnitRecord) : List Byte :=
  let declared := u.declared.getD Sides.zero
  be 1 u.mode.code ++ be 1 u.declared.isSome.toNat ++ be 4 declared.up ++ be 4 declared.down
    ++ be 1 u.bars.code

/-- UNIT-MODE's answer (R25). -/
def answerUnitMode (body : List Byte) (s : State) : State × Answer :=
  let flags := field body 2 1
  match addressOf body, enrolMode (field body 1 1) (flags.testBit 0) (declaredFields body) with
  | some a, some mode =>
    match Fleet.get s.fleet a with
    | none => (s, .refused .notFound)
    | some u =>
      if u.inTest then (s, .refused .wrongState)
      else
        let u1 := u.withMode mode (flags.testBit 1)
        ((s.setUnit a u1).postIf (u1.bars != u.bars) .unit, .done u1.modeBytes)
  | _, _ => (s, .refused .badField)

/-- UNIT-READ's answer (R26). -/
def answerUnitRead (body : List Byte) (s : State) : State × Answer :=
  match addressOf body with
  | none => (s, .refused .badField)
  | some a =>
    match Fleet.get s.fleet a with
    | none => (s, .done (be 1 1))
    | some u => (s, .done (be 1 0 ++ u.bytes s.time a))

/-! ### Link state -/

/-- The link state after a failed visit (R28, Table 2-2). -/
def nextLink (stale lost misses : Nat) : LinkState → LinkState
  | .live => if stale ≤ misses then .stale else .live
  | .joining => if lost ≤ misses then .lost else .joining
  | .stale => if lost ≤ misses then .lost else .stale
  | .lost => .lost

/-- The record after a failed visit (R28, R29). -/
def UnitRecord.failVisit (stale lost : Nat) (u : UnitRecord) : UnitRecord :=
  let misses := min 255 (u.misses + 1)
  let link := nextLink stale lost misses u.link
  let u1 := { u with misses := misses, link := link }
  if u.link = .live ∧ link ≠ .live then u1.leaveLive else u1

/-- The Fleet Table takes a failed visit (R28 to R30): UNIT on a change of link state, TEST on an abort. -/
def State.takeFailure (s : State) (a : Nat) : State :=
  match Fleet.get s.fleet a with
  | none => s
  | some u =>
    let u1 := u.failVisit (s.profile.nat .staleLimit) (s.profile.nat .lostLimit)
    ((s.setUnit a u1).postIf (u.inTest && !u1.inTest) .test).postIf (u1.link != u.link) .unit

/-! ### Reports -/

/-- A report with SoC and floor clamped to the capacity (R31 step 2). -/
def Report.clamped (r : Report) : Report :=
  { r with soc := min r.soc r.capacity, floor := min r.floor r.capacity }

/-- A hold list as taken: holds that end before they start are dropped, and a floor above the capacity is
taken as the capacity (R32). -/
def takeHolds (capacity : Nat) (holds : List Hold) : List Hold :=
  (holds.filter fun h => decide (h.start ≤ h.stop)).map fun h =>
    match h.kind with
    | .withdraw => h
    | .floor e => { h with kind := .floor (min e capacity) }

/-- A good report counted in a running test (R35). -/
def TestRecord.count1 (t : TestRecord) (power : Int) : TestRecord :=
  { t with count := t.count + 1, accumulator := t.accumulator + (power - t.preTest) }

/-- A good report taken into the record (R31 steps 2 to 7). -/
def UnitRecord.takeReport (u : UnitRecord) (carried : CarriedReport) : UnitRecord :=
  let r := carried.report.clamped
  { u with
    link := .live
    misses := 0
    report := some r
    holds := takeHolds r.capacity carried.holds
    setpoint := clampToLimits r u.setpoint
    bars := { u.bars with fault := r.fault != 0, optOut := r.optOut }
    mode := match u.mode with
      | .test t => .test (t.count1 r.power)
      | .plain m => .plain m }

/-- The Fleet Table takes a good report (R27, R30, R31). -/
def State.takeReport (s : State) (a : Nat) (carried : CarriedReport) : State :=
  match Fleet.get s.fleet a with
  | none => s
  | some u =>
    let u1 := u.takeReport carried
    (s.setUnit a u1).postIf (u1.link != u.link || u1.bars != u.bars) .unit

/-! ### The unit test -/

/-- The test power of a report (R34). -/
def testPower (p : Profile) (r : Report) : Nat := floor10 (r.maxDischarge * p.nat .testFraction / 100)

/-- UNIT-TEST's answer (R34). -/
def answerUnitTest (body : List Byte) (s : State) : State × Answer :=
  match addressOf body with
  | none => (s, .refused .badField)
  | some a =>
    match Fleet.get s.fleet a with
    | none => (s, .refused .notFound)
    | some u =>
      if (Fleet.underTest s.fleet).isSome then (s, .refused .testRunning)
      else
        match u.report with
        | none => (s, .refused .wrongState)
        | some r =>
          if !u.eligible || s.episodeOpen || testPower s.profile r == 0 then
            (s, .refused .wrongState)
          else
            let power := testPower s.profile r
            let duration := s.profile.nat .testDuration
            let t : TestRecord :=
              { start := s.time, prior := u.mode.enrolled, preTest := r.power, power := power,
                duration := duration, count := 0, accumulator := 0 }
            (s.setUnit a { u with mode := .test t },
              .done (be 4 power ++ be 1 duration))

/-- The verified factor a test computes (R36). -/
def TestRecord.factor (t : TestRecord) : Nat :=
  if t.count = 0 then 0
  else (clamp ((t.accumulator.tdiv t.count * 4096).tdiv t.power) 0 4096).toNat

/-- A test completes within its record (R36). -/
def UnitRecord.completeTest (gMin : Nat) (u : UnitRecord) : UnitRecord :=
  match u.mode with
  | .plain _ => u
  | .test t =>
    let low := decide (t.factor < gMin)
    { u with
      g := t.factor
      bars := { u.bars with lowResponse := low }
      mode := .plain t.prior
      lastTest := some (if low then .low t.factor else .passed t.factor) }

/-- The test timer expires (R36); with no test running no timer is armed. -/
def State.testExpiry (s : State) : State :=
  match Fleet.underTest s.fleet with
  | none => s
  | some a =>
    match Fleet.get s.fleet a with
    | none => s
    | some u =>
      let u1 := u.completeTest (s.profile.nat .gMin)
      ((s.setUnit a u1).post .test).postIf (u1.bars != u.bars) .unit

/-! ### Enrolment lists and the rows -/

/-- The entry a unit is saved as (R38): a unit in TEST with the prior mode of its test. -/
def saveEntry (e : Nat × UnitRecord) : EnrolEntry := ⟨e.1, e.2.mode.enrolled, e.2.g⟩

/-- ENROL (R23). -/
def execEnrol (port : Port) (tag : Byte) (body : List Byte) (s : State) :
    Host.Outcome State Fault Refusal :=
  request .enrol port tag body (answerEnrol body) s

/-- RETIRE (R24). -/
def execRetire (port : Port) (tag : Byte) (body : List Byte) (s : State) :
    Host.Outcome State Fault Refusal :=
  request .retire port tag body (answerRetire body) s

/-- UNIT-MODE (R25). -/
def execUnitMode (port : Port) (tag : Byte) (body : List Byte) (s : State) :
    Host.Outcome State Fault Refusal :=
  request .unitMode port tag body (answerUnitMode body) s

/-- UNIT-TEST (R34). -/
def execUnitTest (port : Port) (tag : Byte) (body : List Byte) (s : State) :
    Host.Outcome State Fault Refusal :=
  request .unitTest port tag body (answerUnitTest body) s

/-- UNIT-READ (R26). -/
def execUnitRead (port : Port) (tag : Byte) (body : List Byte) (s : State) :
    Host.Outcome State Fault Refusal :=
  request .unitRead port tag body (answerUnitRead body) s

/-- TEST_TIMER_EXPIRY (R36). -/
def execTestTimerExpiry (s : State) : Host.Outcome State Fault Refusal := whenRunning State.testExpiry s

end Sys2Proof.Machine
end

