-- ==== Sys2Proof/Machine/Link.lean ====
section
/-! DEFINITION. The Fleet Link Controller (chapter 8): rounds, visits, frames, the QUIET wait. -/

namespace Sys2Proof.Machine

/-! ### The walk -/

/-- The table indices of a round in the order it walks them (R126). -/
def walkOrder (startIndex : Nat) : List Nat :=
  List.range' startIndex (241 - startIndex) ++ List.range' 1 (startIndex - 1)

/-- The indices the round has still to pass (R126). -/
def Link.ahead (l : Link) : List Nat :=
  match l.position with
  | none => walkOrder l.startIndex
  | some p => ((walkOrder l.startIndex).dropWhile fun a => a != p).drop 1

/-- The entry at an index is visited in the round (R126). -/
def visited (f : Fleet) (round a : Nat) : Bool :=
  match Fleet.get f a with
  | none => false
  | some u => u.link != .lost || round % 10 == 0

/-- The next entry the walk finds (R126). -/
def State.nextVisit (s : State) : Option Nat := s.link.ahead.find? (visited s.fleet s.link.round)

/-- The setpoint frame of a visit, formed as the visit begins (R124). -/
def setpointFrame (a : Nat) (u : UnitRecord) (episode : Bool) : SetpointFrame where
  address := a
  setpoint := if u.link = .live then u.setpoint.tdiv 10 else 0
  participating := u.participation != 0
  restoring := u.restoration != 0
  test := u.inTest
  episode := episode

/-- A visit to the entry at an index begins (R129): FBDE goes high and SENDING starts. -/
def State.beginVisit (s : State) (a : Nat) : State :=
  match Fleet.get s.fleet a with
  | none => s
  | some u =>
    { s with link :=
        { s.link with
          position := some a
          phase := .sending
          fbde := true
          visit := some
            { address := a
              frame := setpointFrame a u s.episodeOpen
              timeout := s.profile.nat .replyTimeout
              removed := false
              buffer := [] } } }

/-- No entry is left to visit and the round timer runs: PACING, with no visit in progress (R127). -/
def State.pace (s : State) : State :=
  { s with link := { s.link with phase := .pacing, visit := none, fbde := false } }

/-- The first step of a round's walk; an empty round goes to PACING (R126, R127). -/
def State.startWalk (s : State) : State :=
  match s.nextVisit with
  | some a => s.beginVisit a
  | none => s.pace

/-- The completion of a round (R128): counter, start index and walk position, the completion event to the
Headroom Engine and the Delivery Monitor, and the next round. R128 lets an event come between the two takers
of the completion; that both take it in one step is the model's choice (log entry 27). -/
def State.completeRound (s : State) : State :=
  let s1 := { s with link :=
    { s.link with
      round := if maxWord ≤ s.link.round then 0 else s.link.round + 1
      startIndex := advanceIndex s.link.startIndex
      position := none
      roundTimer := some (s.arm (msCounts 200)) } }
  s1.evaluate.updateDelivered.startWalk

/-- The next step of the walk; at the walk's end the round completes or paces (R126, R127). -/
def State.walk (s : State) : State :=
  match s.nextVisit with
  | some a => s.beginVisit a
  | none => if s.link.roundTimer.isNone then s.completeRound else s.pace

/-! ### The visit -/

/-- The setpoint frame has been sent (R129, R130). -/
def State.frameSent (s : State) : State :=
  match s.link.phase, s.link.visit with
  | .sending, some v =>
    { s with link :=
        { s.link with fbde := false, phase := .awaiting (s.arm (msCounts v.timeout)) } }
  | _, _ => s

/-- AWAITING ends: QUIET begins, its 100 µs wait and 1 ms bound armed, with the characters the visit has
gathered (R135). -/
def State.enterQuiet (s : State) (buffer : List Byte) : State :=
  { s with link :=
      { s.link with
        phase := .quiet (s.arm 1000) (s.arm (msCounts 1))
        visit := s.link.visit.map fun v => { v with buffer := buffer } } }

/-- The outcome of a visit reaches the Fleet Table, unless its record was removed (R132, R134). -/
def State.takeOutcome (s : State) (v : Visit) (outcome : Except FailureCause CarriedReport) : State :=
  if v.removed then s
  else
    match outcome with
    | .ok carried => s.takeReport v.address carried
    | .error _ => s.takeFailure v.address

/-- AWAITING ends with an outcome (R130, R132). -/
def State.endAwaiting (s : State) (buffer : List Byte)
    (judge : Visit → Except FailureCause CarriedReport) : State :=
  match s.link.phase, s.link.visit with
  | .awaiting _, some v => (s.takeOutcome v (judge v)).enterQuiet buffer
  | _, _ => s

/-- A character received in QUIET restarts the 100 µs wait and leaves the 1 ms bound (R123, R135). -/
def State.quietCharacter (s : State) : State :=
  match s.link.phase with
  | .quiet _ bound => { s with link := { s.link with phase := .quiet (s.arm 1000) bound } }
  | _ => s

/-- A frame has the number of bytes its length field announces, 20 to 64 (R123, R130). -/
def frameComplete (frame : List Byte) : Bool :=
  decide (field frame 0 1 = frame.length ∧ 20 ≤ frame.length ∧ frame.length ≤ 64)

/-- A complete frame has been received: judged in AWAITING, discarded in any other phase (R123, R131). -/
def State.frameReceived (frame : List Byte) (s : State) : State :=
  if !frameComplete frame then s
  else
    match s.link.phase with
    | .awaiting _ => s.endAwaiting frame fun v => judgeFrame v.address frame
    | _ => s.quietCharacter

/-- A length field outside 20..64 fails the visit MALFORMED at once (R130). -/
def State.lengthInvalid (length : Byte) (s : State) : State :=
  if 20 ≤ length.toNat ∧ length.toNat ≤ 64 then s
  else s.endAwaiting [length] fun _ => .error .malformed

/-- The reply timeout expires: the visit fails TIMEOUT and characters received are discarded (R130). -/
def State.replyExpiry (s : State) : State := s.endAwaiting [] fun _ => .error .timeout

/-- QUIET ends and the walk takes its next step (R135). -/
def State.quietEnd (s : State) : State :=
  match s.link.phase with
  | .quiet _ _ => s.walk
  | _ => s

/-- The round timer expires: a round whose walk has ended completes (R127). -/
def State.roundExpiry (s : State) : State :=
  match s.link.roundTimer with
  | none => s
  | some _ =>
    let s1 := { s with link := { s.link with roundTimer := none } }
    match s.link.phase with
    | .pacing => s1.completeRound
    | _ => s1

/-- ROUND_TIMER_EXPIRY (R127). -/
def execRoundTimerExpiry (s : State) : Host.Outcome State Fault Refusal := whenRunning State.roundExpiry s

/-- SETPOINT_FRAME_SENT (R130). -/
def execSetpointFrameSent (s : State) : Host.Outcome State Fault Refusal := whenRunning State.frameSent s

/-- REPORT_FRAME_RECEIVED (R131). -/
def execReportFrameReceived (frame : List Byte) (s : State) : Host.Outcome State Fault Refusal :=
  whenRunning (State.frameReceived frame) s

/-- REPORT_LENGTH_INVALID (R130). -/
def execReportLengthInvalid (length : Byte) (s : State) : Host.Outcome State Fault Refusal :=
  whenRunning (State.lengthInvalid length) s

/-- REPLY_TIMEOUT (R130). -/
def execReplyTimeout (s : State) : Host.Outcome State Fault Refusal := whenRunning State.replyExpiry s

/-- QUIET_END (R135). -/
def execQuietEnd (s : State) : Host.Outcome State Fault Refusal := whenRunning State.quietEnd s

/-- QUIET_CHARACTER_RECEIVED (R135). -/
def execQuietCharacterReceived (s : State) : Host.Outcome State Fault Refusal :=
  whenRunning State.quietCharacter s

end Sys2Proof.Machine
end

