-- ==== Sys2Proof/Machine/Profiles.lean ====
section
/-! DEFINITION. The Profile Store (chapter 11) and the parameter requests (10.3). -/

namespace Sys2Proof.Machine

/-! ### Parameters -/

/-- The value a PARAM-SET applies (R159): clamped to a numeric range, an attention mode checked, a set
without the members the parameter cannot hold. -/
def appliedValue (i : ParamId) (v : Int) : Option Int :=
  match i.range with
  | .numeric lo hi => some (clamp v lo hi)
  | .mode => if v = 0 ∨ v = 1 then some v else none
  | .members mask => some (((v % (2 ^ 32 : Nat)).toNat &&& mask : Nat) : Int)

/-- The orderings a profile keeps (R159): θ_lo < θ_hi < θ_crit, and PROP full deviation > deadband. -/
def breaksOrder (p : Profile) (i : ParamId) : Bool :=
  match i with
  | .thetaLo | .thetaHi | .thetaCrit =>
    !(decide (p.get .thetaLo < p.get .thetaHi) && decide (p.get .thetaHi < p.get .thetaCrit))
  | .deadband | .fullDeviation => decide (p.get .fullDeviation ≤ p.get .deadband)
  | _ => false

/-- A parameter value in its 4-byte field (11.2). -/
def valueBytes (v : Int) : List Byte := beInt 4 v

/-- PARAM-SET's answer (R159). -/
def answerParamSet (body : List Byte) (s : State) : State × Answer :=
  match ParamId.ofCode (field body 0 1) with
  | none => (s, .refused .badField)
  | some i =>
    match appliedValue i (fieldInt body 1 4) with
    | none => (s, .refused .badField)
    | some v =>
      let p := s.profile.put i v
      if breaksOrder p i then (s, .refused .order)
      else (s.putProfile p, .done (be 1 i.code ++ valueBytes v))

/-- PARAM-READ's answer (R160). -/
def answerParamRead (body : List Byte) (s : State) : State × Answer :=
  match ParamId.ofCode (field body 0 1) with
  | none => (s, .refused .badField)
  | some i => (s, .done (be 1 i.code ++ valueBytes (s.profile.get i)))

/-- The minimum and maximum PARAM-DESCRIBE gives (R160): for a set 0 and every member; for an attention
mode 0 and the set of its two members, 3, for a set is carried in the low bits of the value field
(chapter 11, under Table 11-2). -/
def describedRange : ParamRange → Int × Int
  | .numeric lo hi => (lo, hi)
  | .mode => (0, 3)
  | .members mask => (0, mask)

/-- PARAM-DESCRIBE's answer (R160). -/
def answerParamDescribe (body : List Byte) (s : State) : State × Answer :=
  match ParamId.ofCode (field body 0 1) with
  | none => (s, .refused .badField)
  | some i =>
    (s, .done (be 1 i.code ++ valueBytes (describedRange i.range).1
      ++ valueBytes (describedRange i.range).2 ++ valueBytes i.default
      ++ valueBytes (s.profile.get i)))

/-! ### Writing the store -/

/-- The stored slot, valid, that a slot number names; FACTORY is valid in every case (R167). -/
def Store.slot (x : Store) : ProfileSlot → StoredProfile
  | .factory => ⟨.factory, [], true⟩
  | .one => x.slot1
  | .two => x.slot2

/-- PROFILE-SAVE's answer (R168): the image is formed, the slot's check word made invalid, and the
request stays in service until the write ends. -/
def answerProfileSave (body : List Byte) (s : State) : State × Answer :=
  let image (second : Bool) := StoreWrite.image second s.profile (s.fleet.map saveEntry)
  match ProfileSlot.ofCode (field body 0 1) with
  | some .one =>
    ({ s with store :=
        { s.store with
          slot1 := { s.store.slot1 with valid := false }, write := some (image false) } }, .held)
  | some .two =>
    ({ s with store :=
        { s.store with
          slot2 := { s.store.slot2 with valid := false }, write := some (image true) } }, .held)
  | _ => (s, .refused .badField)

/-- PROFILE-STARTUP's answer (R169). -/
def answerProfileStartup (body : List Byte) (s : State) : State × Answer :=
  match ProfileSlot.ofCode (field body 0 1) with
  | none => (s, .refused .badField)
  | some slot =>
    ({ s with store :=
        { s.store with
          selector := { s.store.selector with valid := false }, write := some (.selector slot) } },
      .held)

/-- The Market Port's request in service is answered DONE at the end of its store write, and STORE is
posted (R168, R169). -/
def State.finishWrite (s : State) : State :=
  match s.market.service with
  | none => s.post .store
  | some v => (s.finish .market (doneReply v.kind.code v.tag [])).post .store

/-- The store write of a save finishes (R168); with no save in progress nothing finishes. -/
def State.saveComplete (s : State) : State :=
  match s.store.write with
  | some (.image second p list) =>
    let done : StoredProfile := ⟨p, list, true⟩
    let store :=
      if second then { s.store with slot2 := done, write := none }
      else { s.store with slot1 := done, write := none }
    { s with store := store }.finishWrite
  | _ => s

/-- The selector write finishes (R169); with no selector write in progress nothing finishes. -/
def State.startupComplete (s : State) : State :=
  match s.store.write with
  | some (.selector slot) =>
    { s with store := { s.store with selector := ⟨slot, true⟩, write := none } }.finishWrite
  | _ => s

/-! ### Loading a profile -/

/-- A load as one whole event (R170, R38, R134): the parameter set and the table are replaced, a running
test ends ABORTED, and TEST, UNIT and STORE are posted. -/
def State.load (s : State) (x : StoredProfile) : State :=
  let s1 := s.putProfile x.profile
  (({ s1 with
      fleet := Fleet.ofEnrolment x.enrolment
      link := s1.link.markRemoved fun _ => true }.postIf
    (Fleet.underTest s.fleet).isSome .test).post .unit).post .store

/-- PROFILE-LOAD's answer (R170). -/
def answerProfileLoad (body : List Byte) (s : State) : State × Answer :=
  match ProfileSlot.ofCode (field body 0 1) with
  | none => (s, .refused .badField)
  | some slot =>
    if s.book.records.any fun c => !c.isPending then (s, .refused .wrongState)
    else if !(s.store.slot slot).valid then (s, .refused .storeInvalid)
    else (s.load (s.store.slot slot), .done [])

/-- PARAM-SET (R159). -/
def execParamSet (port : Port) (tag : Byte) (body : List Byte) (s : State) :
    Host.Outcome State Fault Refusal :=
  request .paramSet port tag body (answerParamSet body) s

/-- PARAM-READ (R160). -/
def execParamRead (port : Port) (tag : Byte) (body : List Byte) (s : State) :
    Host.Outcome State Fault Refusal :=
  request .paramRead port tag body (answerParamRead body) s

/-- PARAM-DESCRIBE (R160). -/
def execParamDescribe (port : Port) (tag : Byte) (body : List Byte) (s : State) :
    Host.Outcome State Fault Refusal :=
  request .paramDescribe port tag body (answerParamDescribe body) s

/-- PROFILE-SAVE (R168). -/
def execProfileSave (port : Port) (tag : Byte) (body : List Byte) (s : State) :
    Host.Outcome State Fault Refusal :=
  request .profileSave port tag body (answerProfileSave body) s

/-- SAVE_WRITE_COMPLETE (R168). -/
def execSaveWriteComplete (s : State) : Host.Outcome State Fault Refusal :=
  whenRunning State.saveComplete s

/-- PROFILE-STARTUP (R169). -/
def execProfileStartup (port : Port) (tag : Byte) (body : List Byte) (s : State) :
    Host.Outcome State Fault Refusal :=
  request .profileStartup port tag body (answerProfileStartup body) s

/-- STARTUP_WRITE_COMPLETE (R169). -/
def execStartupWriteComplete (s : State) : Host.Outcome State Fault Refusal :=
  whenRunning State.startupComplete s

/-- PROFILE-LOAD (R170). -/
def execProfileLoad (port : Port) (tag : Byte) (body : List Byte) (s : State) :
    Host.Outcome State Fault Refusal :=
  request .profileLoad port tag body (answerProfileLoad body) s

end Sys2Proof.Machine
end

