-- ==== Sys2Proof/Machine/Power.lean ====
section
/-! DEFINITION. Start-up and resets (11.5): the supply, the RESET pin, the start-up profile. -/

namespace Sys2Proof.Machine

/-- A store write in progress is cut short: what it was writing stays invalid (R167 to R169, R172). -/
def Store.cut (x : Store) : Store := { x with write := none }

/-- Every block in its reset state over a profile and a table, the pending sets empty and the lines low:
the supply, the RESET pin, the straps, the store and the queue are kept (R20, R59, R69, R95, R106,
R107, R125, R138, R157). -/
def State.blocksReset (s : State) (p : Profile) (f : Fleet) : State where
  powered := s.powered
  resetLow := s.resetLow
  straps := s.straps
  time := 0
  clock := .initial
  book := .initial
  fleet := f
  plan := .initial
  avail := .initial
  marked := []
  meter := .initial s.straps.fsrcHigh
  analog := .initial p
  thermal := .initial p
  levels := .initial
  apportioner := .initial
  link := .initial
  delivery := .initial
  market := .initial
  operator := .initial
  profile := p
  store := s.store.cut
  pending := s.pending

/-- The start-up profile and whether STORE is posted (R171). -/
def Store.startup (x : Store) : StoredProfile × Bool :=
  if !x.selector.valid then (x.slot .factory, true)
  else if (x.slot x.selector.slot).valid then (x.slot x.selector.slot, false)
  else (x.slot .factory, true)

/-- The start that follows a power-on or the end of an external reset (R171, R172): the profile is
loaded, the table built, every block reset, CLOCK posted to both ports and then STORE where the start
fell back, and round 0 begins. -/
def State.startUp (s : State) : State :=
  let chosen := s.store.cut.startup
  (((s.blocksReset chosen.1.profile (Fleet.ofEnrolment chosen.1.enrolment)).post .clock).postIf
    chosen.2 .store).startWalk

/-- The part held in reset or without supply (R172): its blocks are reset with every timer unarmed, no
frame is on any line, and FBDE, MATN and OATN are low. -/
def State.held (s : State) : State :=
  let s1 := s.blocksReset s.profile []
  { s1 with
    meter := { s1.meter with lossCompare := none }
    analog := { s1.analog with converting := [], setTimer := none }
    thermal := { s1.thermal with timer := none }
    apportioner := { s1.apportioner with timer := none }
    link := { s1.link with roundTimer := none } }

/-- The part starts if it is supplied and not held in reset (R171, R172). -/
def State.startOrHold (s : State) : State := if s.running then s.startUp else s.held

/-- POWER_ON (R171): the straps are sampled and the part starts; with RESET low it stays held. -/
def execPowerOn (nomfHigh fsrcHigh : Bool) (s : State) : Host.Outcome State Fault Refusal :=
  .next { s with powered := true, straps := ⟨nomfHigh, fsrcHigh⟩ }.startOrHold

/-- SUPPLY_LOSS (R172): a reset cut short; a store write in progress is left invalid. -/
def execSupplyLoss (s : State) : Host.Outcome State Fault Refusal :=
  .next { s with powered := false }.startOrHold

/-- RESET_PIN_LOW (R172): the part is held in reset; a store write in progress is cut short. -/
def execResetPinLow (s : State) : Host.Outcome State Fault Refusal :=
  .next { s with resetLow := true }.startOrHold

/-- RESET_PIN_RELEASE (R172): the part starts with the straps of the last power-on; a pin that is not
low does not return high. -/
def execResetPinRelease (s : State) : Host.Outcome State Fault Refusal :=
  .next (if s.resetLow then { s with resetLow := false }.startOrHold else s)

/-- The Market Port serves a RESTART, whose reply has been formed (R157). -/
def State.restarting (s : State) : Bool :=
  match s.market.service with
  | some v => v.kind == .restart
  | none => false

/-- RESTART_REPLY_SENT (R157): an external reset, at once (R172). -/
def execRestartReplySent (s : State) : Host.Outcome State Fault Refusal :=
  whenRunning (fun s => if s.restarting then s.startUp else s) s

end Sys2Proof.Machine
end

