-- ==== Sys2Proof/Machine/Ports.lean ====
section
/-! DEFINITION. What the ports themselves own (chapter 10): notices, the attention pulse, status,
restart, discarded frames, unknown kinds, and the transmitter. -/

namespace Sys2Proof.Machine

/-! ### The receiver's own events -/

/-- A frame is discarded, or falls silent: a RECEIVING receiver returns to HUNTING (R154). -/
def PortState.discard (x : PortState) : PortState :=
  match x.receiver with
  | .hunting _ => x
  | .receiving _ _ => { x with receiver := .hunting false }

/-- REQUEST_DISCARDED (R154). -/
def execRequestDiscarded (port : Port) (s : State) : Host.Outcome State Fault Refusal :=
  whenRunning (fun s => s.setPort port (s.port port).discard) s

/-- RECEIVER_SILENCE (R154). -/
def execReceiverSilence (port : Port) (s : State) : Host.Outcome State Fault Refusal :=
  whenRunning (fun s => s.setPort port (s.port port).discard) s

/-- A complete request of a kind code not in Table 10-1 (R155 cases 1 and 2). -/
def State.unknownKind (port : Port) (kind tag : Byte) (s0 : State) : State :=
  let s := s0.heard port
  if (s.port port).service.isSome then s.setPort port ((s.port port).answerBusy kind tag)
  else s.send port (refusedReply kind tag .unknown)

/-- UNKNOWN_REQUEST (R155): the body plays no part. -/
def execUnknownRequest (port : Port) (kind tag : Byte) (_body : List Byte) (s : State) :
    Host.Outcome State Fault Refusal :=
  whenRunning (State.unknownKind port kind tag) s

/-! ### The transmitter -/

/-- The reply being sent has gone out and the next waiting reply starts (R156). -/
def PortState.transmitted (x : PortState) : PortState :=
  match x.waiting with
  | [] => { x with sending := none }
  | r :: rest => { x with sending := some r, waiting := rest }

/-- The reply of a RESTART in service is the one being sent (R157). -/
def State.sendingRestart (s : State) (port : Port) : Bool :=
  port == .market && s.restarting &&
    (match s.market.sending with
      | some r => r.kind == RequestKind.restart.code && r.outcome == .done
      | none => false)

/-- REPLY_TRANSMITTED (R156); the reply of a RESTART ends in the external reset (R157). -/
def execReplyTransmitted (port : Port) (s : State) : Host.Outcome State Fault Refusal :=
  whenRunning (fun s =>
    if s.sendingRestart port then s.startUp else s.setPort port (s.port port).transmitted) s

/-! ### Notices -/

/-- The port judges its line after a NOTICE-READ: LEVEL mode follows the set, PULSE mode keeps the pulses
owed (R164, R165). -/
def PortState.judgeAfterRead (x : PortState) (pulse : Bool) (enables : NoticeSet) : PortState :=
  if pulse then x else x.judgeLevel enables

/-- NOTICE-READ's answer (R162). -/
def answerNoticeRead (port : Port) (s : State) : State × Answer :=
  let x := s.port port
  (s.setPort port ({ x with notices := 0 }.judgeAfterRead (s.profile.pulseMode port)
      (s.profile.enables port)),
    .done (be 2 x.notices.toNat))

/-- The notice set in a 2-byte field: bits 12 to 15 are disregarded (R166). -/
def noticeField (body : List Byte) (at_ : Nat) : NoticeSet := BitVec.ofNat 12 (field body at_ 2)

/-- An enable set after a NOTICE-MASK (R163). -/
def maskedEnables (enables select value : NoticeSet) : NoticeSet :=
  (enables &&& ~~~select) ||| (value &&& select)

/-- NOTICE-MASK's answer (R163): a select set with a kind the port does not carry is refused. -/
def answerNoticeMask (port : Port) (body : List Byte) (s : State) : State × Answer :=
  let select := noticeField body 0
  let value := noticeField body 2
  if select &&& ~~~(carriedNotices port) != 0 then (s, .refused .badField)
  else
    let enables := maskedEnables (s.profile.enables port) select value
    (s.putProfile (s.profile.put (enableParam port) enables.toNat), .done (be 2 enables.toNat))

/-- STATUS-READ's answer (R158). R158 lets two figures of different owners straddle an event; that all are read
in one step, and so are those of one state, is the model's choice (log entry 26). -/
def answerStatusRead (s : State) : State × Answer := (s, .done s.statusBytes)

/-- RESTART's answer (R157): DONE is sent and the request stays in service. -/
def answerRestart (port : Port) (tag : Byte) (s : State) : State × Answer :=
  (s.send port (doneReply RequestKind.restart.code tag []), .held)

/-- NOTICE-READ (R162). -/
def execNoticeRead (port : Port) (tag : Byte) (body : List Byte) (s : State) :
    Host.Outcome State Fault Refusal :=
  request .noticeRead port tag body (answerNoticeRead port) s

/-- NOTICE-MASK (R163). -/
def execNoticeMask (port : Port) (tag : Byte) (body : List Byte) (s : State) :
    Host.Outcome State Fault Refusal :=
  request .noticeMask port tag body (answerNoticeMask port body) s

/-- STATUS-READ (R158). -/
def execStatusRead (port : Port) (tag : Byte) (body : List Byte) (s : State) :
    Host.Outcome State Fault Refusal :=
  request .statusRead port tag body answerStatusRead s

/-- RESTART (R157). -/
def execRestart (port : Port) (tag : Byte) (body : List Byte) (s : State) :
    Host.Outcome State Fault Refusal :=
  request .restart port tag body (answerRestart port tag) s

/-- ATTENTION_PULSE_TIMER (R165): in LEVEL mode no pulse is given. -/
def execAttentionPulseTimer (port : Port) (s : State) : Host.Outcome State Fault Refusal :=
  whenRunning (fun s =>
    if s.profile.pulseMode port then s.setPort port (s.port port).pulseTimer else s) s

end Sys2Proof.Machine
end

