-- ==== Sys2Proof/Machine/PortBytes.lean ====
section
/-! DEFINITION. The receiver of a port, byte by byte (R154): the start pair, the length, completion and
the check; a complete request is taken by R155 in the step of its last byte. -/

namespace Sys2Proof.Machine

/-- The meaning of a request by its kind. -/
def requestOf (kind : RequestKind) (port : Port) (tag : Byte) (body : List Byte) (s : State) :
    Host.Outcome State Fault Refusal :=
  match kind with
  | .award => execAward port tag body s
  | .withdraw => execWithdraw port tag body s
  | .release => execRelease port tag body s
  | .bookOpen => execBookOpen port tag body s
  | .bookNext => execBookNext port tag body s
  | .timeSync => execTimeSync port tag body s
  | .level => execLevel port tag body s
  | .freq => execFreq port tag body s
  | .planRead => execPlanRead port tag body s
  | .availRead => execAvailRead port tag body s
  | .enrol => execEnrol port tag body s
  | .retire => execRetire port tag body s
  | .unitMode => execUnitMode port tag body s
  | .unitTest => execUnitTest port tag body s
  | .unitRead => execUnitRead port tag body s
  | .logOpen => execLogOpen port tag body s
  | .logNext => execLogNext port tag body s
  | .deliveryRead => execDeliveryRead port tag body s
  | .paramSet => execParamSet port tag body s
  | .paramRead => execParamRead port tag body s
  | .paramDescribe => execParamDescribe port tag body s
  | .profileSave => execProfileSave port tag body s
  | .profileLoad => execProfileLoad port tag body s
  | .profileStartup => execProfileStartup port tag body s
  | .noticeRead => execNoticeRead port tag body s
  | .noticeMask => execNoticeMask port tag body s
  | .statusRead => execStatusRead port tag body s
  | .restart => execRestart port tag body s

/-- What the bytes gathered after a start pair amount to (R154). -/
inductive Gathered where
  | incomplete
  | discarded
  | request (kind tag : Byte) (body : List Byte)
  deriving DecidableEq, Repr

/-- The judgement of the bytes gathered after a start pair (R154): the length outside 2..242 or a check
that does not match discards the frame; a complete frame with a matching check is a request. -/
def judgeGathered (bytes : List Byte) : Gathered :=
  let length := field bytes 0 1
  if length < 2 ∨ 242 < length then .discarded
  else if bytes.length < length + 3 then .incomplete
  else
    let covered := bytes.take (length + 1)
    if field bytes (length + 1) 2 ≠ (crc16 covered).toNat then .discarded
    else
      match covered with
      | _ :: kind :: tag :: body => .request kind tag body
      | _ => .discarded

/-- A complete request is taken by its kind code (R155). -/
def takeRequest (port : Port) (kind tag : Byte) (body : List Byte) (s : State) :
    Host.Outcome State Fault Refusal :=
  match RequestKind.ofCode kind with
  | some k => requestOf k port tag body s
  | none => execUnknownRequest port kind tag body s

/-- The receiver after a byte in HUNTING (R154): 0x3C right after 0xC3 makes it RECEIVING. -/
def huntByte (silence : Timer) (first : Bool) (byte : Byte) : Receiver :=
  if first && byte == 0x3C#8 then .receiving [] silence else .hunting (byte == 0xC3#8)

/-- Put a port's receiver. -/
def State.putReceiver (s : State) (port : Port) (r : Receiver) : State :=
  s.setPort port { s.port port with receiver := r }

/-- PORT_BYTE_RECEIVED (R154): each byte in RECEIVING restarts the 50 ms silence wait. -/
def execPortByteReceived (port : Port) (byte : Byte) (s : State) : Host.Outcome State Fault Refusal :=
  if !s.running then .next s
  else
    let silence := s.arm (msCounts 50)
    match (s.port port).receiver with
    | .hunting first => .next (s.putReceiver port (huntByte silence first byte))
    | .receiving bytes _ =>
      match judgeGathered (bytes ++ [byte]) with
      | .incomplete => .next (s.putReceiver port (.receiving (bytes ++ [byte]) silence))
      | .discarded => .next (s.putReceiver port (.hunting false))
      | .request kind tag body => takeRequest port kind tag body s

end Sys2Proof.Machine
end

