-- ==== Sys2Proof/Machine/Dispatch.lean ====
section
/-! DEFINITION. The dispatch: one arm per row of the opcode table, each a direct call of its meaning. -/

namespace Sys2Proof.Machine

/-- The effect of a command on everything but the queue. -/
def exec (i : Instr) (s : State) : Host.Outcome State Fault Refusal :=
  match i with
  | .powerOn nomfHigh fsrcHigh => Sys2Proof.Machine.execPowerOn nomfHigh fsrcHigh s
  | .supplyLoss => Sys2Proof.Machine.execSupplyLoss s
  | .resetPinLow => Sys2Proof.Machine.execResetPinLow s
  | .resetPinRelease => Sys2Proof.Machine.execResetPinRelease s
  | .restartReplySent => Sys2Proof.Machine.execRestartReplySent s
  | .requestDiscarded port => Sys2Proof.Machine.execRequestDiscarded port s
  | .receiverSilence port => Sys2Proof.Machine.execReceiverSilence port s
  | .unknownRequest port kind tag body => Sys2Proof.Machine.execUnknownRequest port kind tag body s
  | .award port tag body => Sys2Proof.Machine.execAward port tag body s
  | .withdraw port tag body => Sys2Proof.Machine.execWithdraw port tag body s
  | .release port tag body => Sys2Proof.Machine.execRelease port tag body s
  | .bookOpen port tag body => Sys2Proof.Machine.execBookOpen port tag body s
  | .bookNext port tag body => Sys2Proof.Machine.execBookNext port tag body s
  | .timeSync port tag body => Sys2Proof.Machine.execTimeSync port tag body s
  | .slotBoundary => Sys2Proof.Machine.execSlotBoundary s
  | .level port tag body => Sys2Proof.Machine.execLevel port tag body s
  | .freq port tag body => Sys2Proof.Machine.execFreq port tag body s
  | .planRead port tag body => Sys2Proof.Machine.execPlanRead port tag body s
  | .availRead port tag body => Sys2Proof.Machine.execAvailRead port tag body s
  | .enrol port tag body => Sys2Proof.Machine.execEnrol port tag body s
  | .retire port tag body => Sys2Proof.Machine.execRetire port tag body s
  | .unitMode port tag body => Sys2Proof.Machine.execUnitMode port tag body s
  | .unitTest port tag body => Sys2Proof.Machine.execUnitTest port tag body s
  | .unitRead port tag body => Sys2Proof.Machine.execUnitRead port tag body s
  | .logOpen port tag body => Sys2Proof.Machine.execLogOpen port tag body s
  | .logNext port tag body => Sys2Proof.Machine.execLogNext port tag body s
  | .deliveryRead port tag body => Sys2Proof.Machine.execDeliveryRead port tag body s
  | .paramSet port tag body => Sys2Proof.Machine.execParamSet port tag body s
  | .paramRead port tag body => Sys2Proof.Machine.execParamRead port tag body s
  | .paramDescribe port tag body => Sys2Proof.Machine.execParamDescribe port tag body s
  | .profileSave port tag body => Sys2Proof.Machine.execProfileSave port tag body s
  | .saveWriteComplete => Sys2Proof.Machine.execSaveWriteComplete s
  | .profileStartup port tag body => Sys2Proof.Machine.execProfileStartup port tag body s
  | .startupWriteComplete => Sys2Proof.Machine.execStartupWriteComplete s
  | .profileLoad port tag body => Sys2Proof.Machine.execProfileLoad port tag body s
  | .noticeRead port tag body => Sys2Proof.Machine.execNoticeRead port tag body s
  | .noticeMask port tag body => Sys2Proof.Machine.execNoticeMask port tag body s
  | .statusRead port tag body => Sys2Proof.Machine.execStatusRead port tag body s
  | .restart port tag body => Sys2Proof.Machine.execRestart port tag body s
  | .attentionPulseTimer port => Sys2Proof.Machine.execAttentionPulseTimer port s
  | .lrefEdge capture => Sys2Proof.Machine.execLrefEdge capture s
  | .lossCompareExpiry => Sys2Proof.Machine.execLossCompareExpiry s
  | .silenceTimerExpiry => Sys2Proof.Machine.execSilenceTimerExpiry s
  | .conversionSetStart => Sys2Proof.Machine.execConversionSetStart s
  | .conversionComplete code => Sys2Proof.Machine.execConversionComplete code s
  | .thermalUpdate => Sys2Proof.Machine.execThermalUpdate s
  | .dispatchCycle => Sys2Proof.Machine.execDispatchCycle s
  | .supportTimerExpiry id => Sys2Proof.Machine.execSupportTimerExpiry id s
  | .lockoutTimerExpiry id => Sys2Proof.Machine.execLockoutTimerExpiry id s
  | .levelAgeLate => Sys2Proof.Machine.execLevelAgeLate s
  | .levelAgeExpired => Sys2Proof.Machine.execLevelAgeExpired s
  | .testTimerExpiry => Sys2Proof.Machine.execTestTimerExpiry s
  | .roundTimerExpiry => Sys2Proof.Machine.execRoundTimerExpiry s
  | .setpointFrameSent => Sys2Proof.Machine.execSetpointFrameSent s
  | .reportFrameReceived frame => Sys2Proof.Machine.execReportFrameReceived frame s
  | .reportLengthInvalid length => Sys2Proof.Machine.execReportLengthInvalid length s
  | .replyTimeout => Sys2Proof.Machine.execReplyTimeout s
  | .quietEnd => Sys2Proof.Machine.execQuietEnd s
  | .secondInSlotAdvance => Sys2Proof.Machine.execSecondInSlotAdvance s
  | .portByteReceived port byte => Sys2Proof.Machine.execPortByteReceived port byte s
  | .replyTransmitted port => Sys2Proof.Machine.execReplyTransmitted port s
  | .quietCharacterReceived => Sys2Proof.Machine.execQuietCharacterReceived s

end Sys2Proof.Machine
end

