-- ==== Sys2Proof/Config.lean ====
section
/-! DEFINITION. What the model fixes for the whole run beside the spec's own figures. The spec leaves no
value of a command open, so there is no free value here. -/

namespace Sys2Proof

/-- The device time of one idle step, in crystal counts of 100 ns: one millisecond (DESIGN CHOICE, log
entry 1). -/
def Config.idleCounts : Nat := 10000

end Sys2Proof
end

