-- ==== Sys2Proof/Machine/Idle.lean ====
section
/-! DEFINITION. The idle tick: what device time does by itself while no command waits (log entry 1). -/

namespace Sys2Proof.Machine

/-- One millisecond of device time in which nothing is commanded: the device time and the capture counter
advance, and the millisecond phase of a SET clock advances up to 999, whose passage to 0 is a command of
the table (R1, R61). Held in reset or without supply nothing runs. -/
def State.tick (s : State) : State :=
  if s.running then
    { s with
      time := s.time + Config.idleCounts
      meter := { s.meter with counter := s.meter.counter + BitVec.ofNat 24 Config.idleCounts }
      clock := { s.clock with
        ms := if s.clock.set ∧ s.clock.ms < 999 then s.clock.ms + 1 else s.clock.ms } }
  else s

/-- A command put at the front of the queue. -/
def State.enqueueFirst (s : State) (c : Option Instr) : State :=
  match c with
  | some i => { s with pending := i :: s.pending }
  | none => s

end Sys2Proof.Machine
end

