-- ==== Sys2Proof/Machine/Step.lean ====
section
/-! DEFINITION. One step: the command at the front of the queue, or one idle millisecond. -/

namespace Sys2Proof.Machine

/-- Take the command at the front of the queue and run it with the queue's rest; on an empty queue one
millisecond of device time passes (log entry 1). -/
def step (s : State) : Host.Outcome State Fault Refusal :=
  match s.pending with
  | [] => .next s.tick
  | i :: rest => exec i { s with pending := rest }

/-- The command a word spells, put at the front of the queue; no word spells one, for no row of the
opcode table gives bits. -/
def State.withFetchWord (s : State) (nbits w : Nat) : State :=
  s.enqueueFirst (Sys2Proof.decodeTableWord nbits w)

end Sys2Proof.Machine
end

