-- ==== Sys2Proof/Safety.lean ====
section
/-! DEFINITION. What the statements speak of: served requests and their replies, runs of commands, what a
start leaves, the vocabulary of single rules, and the invariants of the blocks. -/

namespace Sys2Proof.Machine

/-! ### Requests, replies, runs -/

/-- The command a request kind's row stands for. -/
def RequestKind.command (kind : RequestKind) (port : Port) (tag : Byte) (body : List Byte) : Instr :=
  match kind with
  | .award => .award port tag body
  | .withdraw => .withdraw port tag body
  | .release => .release port tag body
  | .bookOpen => .bookOpen port tag body
  | .bookNext => .bookNext port tag body
  | .timeSync => .timeSync port tag body
  | .level => .level port tag body
  | .freq => .freq port tag body
  | .planRead => .planRead port tag body
  | .availRead => .availRead port tag body
  | .enrol => .enrol port tag body
  | .retire => .retire port tag body
  | .unitMode => .unitMode port tag body
  | .unitTest => .unitTest port tag body
  | .unitRead => .unitRead port tag body
  | .logOpen => .logOpen port tag body
  | .logNext => .logNext port tag body
  | .deliveryRead => .deliveryRead port tag body
  | .paramSet => .paramSet port tag body
  | .paramRead => .paramRead port tag body
  | .paramDescribe => .paramDescribe port tag body
  | .profileSave => .profileSave port tag body
  | .profileLoad => .profileLoad port tag body
  | .profileStartup => .profileStartup port tag body
  | .noticeRead => .noticeRead port tag body
  | .noticeMask => .noticeMask port tag body
  | .statusRead => .statusRead port tag body
  | .restart => .restart port tag body

/-- Case 5 of R155: the part runs, the port serves no request, the kind is permitted on the port, and the
body has the length its kind requires. -/
def Serves (s : State) (kind : RequestKind) (port : Port) (body : List Byte) : Prop :=
  s.running = true ∧ (s.port port).service = none ∧ kind.permitted s.straps.fsrcHigh port = true ∧
    body.length = kind.bodyLength body

/-- The port has taken a complete request, hunts again, and has formed one reply (R154, R156). -/
def State.replied (s : State) (port : Port) (r : Reply) : State :=
  s.setPort port { (s.port port).transmit r with receiver := .hunting false }

/-- The port has answered a request of a kind DONE. -/
def State.doneWith (s : State) (kind : RequestKind) (port : Port) (tag : Byte) (body : List Byte) :
    State :=
  s.replied port ⟨kind.code, tag, .done, .clear, body⟩

/-- The port has answered a request of a kind REFUSED. -/
def State.refusedWith (s : State) (kind : RequestKind) (port : Port) (tag : Byte) (reason : Reason) :
    State :=
  s.replied port ⟨kind.code, tag, .refused, reason, []⟩

/-- The commands that act on the supply and on the RESET pin. -/
def isPowerCommand : Instr → Bool
  | .powerOn _ _ => true
  | .supplyLoss => true
  | .resetPinLow => true
  | .resetPinRelease => true
  | _ => false

/-- The commands run one after another, stopping at the first that gives no next state. -/
def runAll : List Instr → State → Host.Outcome State Fault Refusal
  | [], s => .next s
  | i :: rest, s =>
    match exec i s with
    | .next t => runAll rest t
    | .fault r => .fault r
    | .refused r => .refused r

/-- The bytes of a request frame (Table 10-2, R154). -/
def requestBytes (kind tag : Byte) (body : List Byte) : List Byte :=
  [0xC3#8, 0x3C#8] ++ (be 1 (2 + body.length) ++ [kind, tag] ++ body)
    ++ crcBytes (be 1 (2 + body.length) ++ [kind, tag] ++ body)

/-- The table of R171: the profile a start loads, and whether STORE is posted. -/
def startupTable (x : Store) : StoredProfile × Bool :=
  match x.selector.valid, x.selector.slot with
  | false, _ => (⟨.factory, [], true⟩, true)
  | true, .factory => (⟨.factory, [], true⟩, false)
  | true, .one => if x.slot1.valid then (x.slot1, false) else (⟨.factory, [], true⟩, true)
  | true, .two => if x.slot2.valid then (x.slot2, false) else (⟨.factory, [], true⟩, true)

/-- A mode a unit can be enrolled in: a declared headroom is in multiples of 10, up to 655,350 W (R23). -/
def EnrolMode.sound : EnrolMode → Prop
  | .manual d => d.up % 10 = 0 ∧ d.down % 10 = 0 ∧ d.up ≤ 655350 ∧ d.down ≤ 655350
  | _ => True

/-- An enrolment list: addresses 1..240 in rising order, each g and mode in range (11.1, R21, R23). -/
def EnrolmentSound (l : List EnrolEntry) : Prop :=
  (l.map EnrolEntry.address).Pairwise (· < ·) ∧
    ∀ e ∈ l, 1 ≤ e.address ∧ e.address ≤ 240 ∧ e.g ≤ 4096 ∧ e.mode.sound

/-- A unit record as the start or a load builds it from an enrolment entry (R38). -/
def EnrolEntry.unit (e : EnrolEntry) : UnitRecord :=
  ⟨.joining, 0, .plain e.mode, e.g, ⟨false, false, false⟩, none, [], ⟨0, 0⟩, 0, 0, 0, none, none⟩

/-- A planning row that holds 0 in every field and stands for no slot (R45). -/
def blankRow : PlanRow := ⟨none, ⟨0, 0⟩, ⟨0, 0⟩, ⟨0, 0⟩, ⟨0, 0⟩⟩

/-- The bit of a channel in the set of channel enables (Table 11-2). -/
def Channel.bit : Channel → Nat
  | .ia => 0
  | .ib => 1
  | .ic => 2
  | .pnet => 3

/-- The kinds a start posts to a port (R157, R171): CLOCK, and STORE to the Market Port of a start that
fell back. -/
def startupNotices (store : Store) (port : Port) : List Notice :=
  if (startupTable store).2 && port == .market then [.clock, .store] else [.clock]

/-- What a start leaves, over the straps and the store it starts with (R171, R172, and the reset column of
each block's table). The capture counter and the loss compare's start point are 0 (log entry 24). The
conversion set that starts with the part is that of R73; the first visit of
round 0 sends the setpoint 0 of a JOINING unit (R124, R125), and an empty round paces with no visit held
(log entry 14); the pulses of an attention line are those of R165, one for each enabled kind posted, the
first already begun and no longer counted (log entry 8). -/
structure Started (straps : Straps) (store : Store) (t : State) : Prop where
  running_eq : t.running = true
  straps_eq : t.straps = straps
  time_eq : t.time = 0
  store_eq : t.store = { store with write := none }
  profile_eq : t.profile = (startupTable store).1.profile
  fleet_eq : t.fleet = (startupTable store).1.enrolment.map fun e => (e.address, e.unit)
  clock_eq : t.clock = ⟨false, 0, 0, 0⟩
  book_eq : t.book = ⟨[], some 1, 0⟩
  plan_eq : t.plan = ⟨List.replicate 192 blankRow, some blankRow⟩
  avail_eq : t.avail = ⟨none, 0, ⟨0, 0⟩, ⟨0, 0⟩, 0, ⟨0, 0⟩, ⟨0, 0⟩, 0, ⟨0, 0⟩, 0⟩
  marked_eq : t.marked = []
  meter_eq : t.meter =
    if straps.fsrcHigh then ⟨0, none, [], 0, .lost, none, none, none⟩
    else ⟨0, none, [], 0, .acquiring, none, some 0, none⟩
  channels_eq : ∀ c, t.analog.get c = ⟨0, 0, false, false⟩
  set_timer_eq : t.analog.setTimer = some ⟨0, 200000⟩
  first_set : t.analog.converting = [Channel.ia, .ib, .ic, .pnet].filter fun c =>
    (t.profile.nat .channelEnables).testBit c.bit
  thermal_eq : t.thermal =
    ⟨t.profile.get .ambient, .normal, t.profile.get .thetaLo, t.profile.get .thetaHi,
      t.profile.get .thetaCrit, .both, t.profile.nat .throttle, some ⟨0, 10000000⟩⟩
  levels_eq : t.levels = ⟨255, 0, .expired, none⟩
  apportioner_eq : t.apportioner = ⟨some ⟨0, 2000000⟩, ⟨0, 0, 0, []⟩, 1⟩
  delivery_eq : t.delivery = ⟨none, [], some 1⟩
  round_eq : t.link.startIndex = 1 ∧ t.link.round = 0 ∧ t.link.roundTimer = some ⟨0, 2000000⟩
  first_visit : EnrolmentSound (startupTable store).1.enrolment →
    match t.fleet.head? with
    | none => t.link.phase = .pacing ∧ t.link.fbde = false ∧ t.link.position = none ∧ t.link.visit = none
    | some e => t.link.phase = .sending ∧ t.link.fbde = true ∧ t.link.position = some e.1 ∧
        t.link.visit = some ⟨e.1, ⟨e.1, 0, false, false, false, false⟩, t.profile.nat .replyTimeout,
          false, []⟩
  market_notices : t.market.notices = if (startupTable store).2 then 0x900#12 else 0x100#12
  operator_notices : t.operator.notices = 0x100#12
  level_lines : ∀ port, t.profile.pulseMode port = false →
    (t.port port).line = ((t.port port).notices &&& t.profile.enables port != 0) ∧
      (t.port port).gap = false ∧ (t.port port).owed = 0
  pulse_lines : ∀ port, t.profile.pulseMode port = true →
    ∃ posted : List Notice,
      posted = (startupNotices store port).filter (hasNotice (t.profile.enables port)) ∧
      (t.port port).line = decide (0 < posted.length) ∧ (t.port port).gap = false ∧
      (t.port port).owed = posted.length - 1
  ports_eq : ∀ port, (t.port port).service = none ∧ (t.port port).sending = none ∧
    (t.port port).waiting = [] ∧ (t.port port).receiver = .hunting false ∧
    (t.port port).bookCursor = .closed ∧ (t.port port).logCursor = .closed

/-! ### The vocabulary of single rules -/

/-- The bytes of a layout: each `(place, length, value)` says that `length` bytes from `place` on carry
`value` (R166); a value too wide for them is carried in its low-order bytes (log entry 12). -/
def Places (b : List Byte) (l : List (Nat × Nat × Nat)) : Prop :=
  ∀ p ∈ l, field b p.1 p.2.1 = p.2.2 % 256 ^ p.2.1

/-- The signed fields of a layout: each `(place, length, value)` whose value fits its length is carried as
it is (R166). -/
def SignedPlaces (b : List Byte) (l : List (Nat × Nat × Int)) : Prop :=
  ∀ p ∈ l, -(256 ^ p.2.1 : Int) ≤ 2 * p.2.2 → 2 * p.2.2 < 256 ^ p.2.1 → fieldInt b p.1 p.2.1 = p.2.2

/-- The eight contributor places of a layout that begin at `at_`; `wh` gives an entry's energy in Wh
(Table 10-6). -/
def ContributorPlaces (b : List Byte) (at_ : Nat) (wh : Nat → Nat) (l : List Contributor) : Prop :=
  (∀ (k : Nat) (c : Contributor), l[k]? = some c → Places b
    [(at_ + 7 * k, 2, c.id),
      (at_ + 7 * k + 2, 1, match c.product with
        | .prop => 1
        | .trig => 2
        | .setp => 3),
      (at_ + 7 * k + 3, 4, min (wh c.energy) maxWord)]) ∧
  ∀ k, l.length ≤ k → k < 8 → field b (at_ + 7 * k) 7 = 0

/-- A hold as a report frame carries it (Table 10-5): 9 bytes for a WITHDRAW hold and 11 for a FLOOR hold. -/
def Hold.carried (h : Hold) : List Byte :=
  be 4 h.start ++ be 4 h.stop ++
    match h.kind with
    | .withdraw => [1#8]
    | .floor e => 2#8 :: be 2 e

/-- Some bytes carry a list of holds, and nothing else (Table 10-5): each slot number in 4 bytes, a floor in
2. -/
def CarriesHolds (bytes : List Byte) (holds : List Hold) : Prop :=
  bytes = holds.flatMap Hold.carried ∧
    ∀ h ∈ holds, h.start < 4294967296 ∧ h.stop < 4294967296 ∧ ∀ e, h.kind = .floor e → e < 65536

/-- The tally of a side, less the candidates `taken`, is within its limits (R53, R54). -/
def FitsWithout (side : Side) (limit tally : Nat × Nat) (candidates : List Commitment)
    (taken : Commitment → Bool) : Prop :=
  tally.1 ≤ limit.1 + ((candidates.filter taken).map fun c => c.capacity.get side).sum ∧
    tally.2 ≤ limit.2 + ((candidates.filter taken).map fun c => c.requirement.get side).sum

/-- A check of one side that marks the latest-accepted candidates (R53, R54), over its limits and the tally
it starts from, each a capacity and an energy: it marks candidates alone, later acceptance first; a side
that fits marks nothing; the tally less what is marked fits, unless every candidate is marked; and no
marked candidate is one too many, for the tally less the candidates accepted after it does not fit. -/
def MarksLatestUntilFit (side : Side) (limit tally : Nat × Nat) (candidates : List Commitment)
    (marked : List Nat) : Prop :=
  (∀ i ∈ marked, ∃ c ∈ candidates, c.id = i) ∧
  (∀ c ∈ candidates, ∀ d ∈ candidates, c.seq < d.seq → c.id ∈ marked → d.id ∈ marked) ∧
  (tally.1 ≤ limit.1 → tally.2 ≤ limit.2 → marked = []) ∧
  ((∀ c ∈ candidates, c.id ∈ marked) ∨
    FitsWithout side limit tally candidates fun c => marked.contains c.id) ∧
  ∀ c ∈ candidates, c.id ∈ marked →
    ¬FitsWithout side limit tally candidates fun d => decide (c.seq < d.seq)

/-- The book after a Left VALID event: every TRIG record in READY counts from 0 again (R67, R84). -/
def Book.leftValid (b : Book) : Book :=
  let cleared (l : LevelRecord) : LevelRecord :=
    match l.follower with
    | .trig (.ready _) => ⟨l.level, l.power, .trig (.ready 0)⟩
    | _ => l
  { b with records := b.records.map fun c =>
      match c.standing with
      | .pending => c
      | .inForce l => { c with standing := .inForce (cleared l) }
      | .overrun l => { c with standing := .overrun (cleared l) } }

/-- The factor of R104 for a power, in 1/4096: 4096 in NORMAL and for a direction that is not throttled, the
throttle record's factor in WARNING, 0 in CRITICAL. -/
def feederFactor (t : Thermal) (power : Int) : Nat :=
  if (0 < power ∧ t.direction = .down) ∨ (power < 0 ∧ t.direction = .up) then 4096
  else
    match t.zone with
    | .normal => 4096
    | .warning => t.factor
    | .critical => 0

/-! ### Profiles (R159, R167) -/

/-- A value a parameter can hold (Table 11-2). -/
def ParamId.fits (i : ParamId) (v : Int) : Prop :=
  match i.range with
  | .numeric lo hi => lo ≤ v ∧ v ≤ hi
  | .mode => v = 0 ∨ v = 1
  | .members mask => 0 ≤ v ∧ v.toNat &&& mask = v.toNat

/-- Every parameter holds a value it can hold, and the orderings of R159 stand. -/
def Profile.Sound (p : Profile) : Prop :=
  (∀ i ∈ ParamId.all, i.fits (p.get i)) ∧ p.get .thetaLo < p.get .thetaHi ∧
    p.get .thetaHi < p.get .thetaCrit ∧ p.get .deadband < p.get .fullDeviation

/-- The working profile, the stored ones and an image being written are sound. -/
def ProfilesSound (s : State) : Prop :=
  s.profile.Sound ∧ s.store.slot1.profile.Sound ∧ s.store.slot2.profile.Sound ∧
    ∀ second p list, s.store.write = some (.image second p list) → p.Sound

/-! ### The thermal model (R99, R101, R104) -/

/-- The thresholds in force are ordered, CRITICAL is held only while θ ≥ θ_hi, θ and the throttle factor
keep their ranges. -/
def ThermalSound (s : State) : Prop :=
  ProfilesSound s ∧ s.thermal.lo < s.thermal.hi ∧ s.thermal.hi < s.thermal.crit ∧
    -40000 ≤ s.thermal.theta ∧ s.thermal.theta ≤ 200000 ∧
    (s.thermal.zone = .critical → s.thermal.hi ≤ s.thermal.theta) ∧ s.thermal.factor ≤ 4096

/-! ### The clock, the book and the planning array (R1, R5, R6, R11, R12, R45, R47, R55) -/

/-- The records whose sums the planning rows hold: those PENDING or IN_FORCE (R47). -/
def Commitment.counted (c : Commitment) : Bool := !c.isOverrun

/-- The committed sums a row should hold: over the counted records that cover its slot (R47). -/
def Book.sums (b : Book) (slot : Nat) : Sides × Sides :=
  let l := b.records.filter fun c => c.counted && c.covers slot
  (Sides.sum (l.map Commitment.capacity), Sides.sum (l.map Commitment.requirement))

/-- One record stands as its state says in slot `slot` (R11, R12, R9 check 3). -/
def Commitment.placed (slot : Nat) (c : Commitment) : Prop :=
  match c.standing with
  | .pending => slot < c.start ∧ c.stop ≤ slot + 192
  | .inForce _ => c.start ≤ slot ∧ slot ≤ c.stop ∧ c.stop ≤ slot + 192
  | .overrun _ => c.stop < slot

/-- One record by itself: its id and sequence, its interval, its capacities (R5, R6). -/
def Commitment.wellFormed (c : Commitment) : Prop :=
  1 ≤ c.id ∧ c.id ≤ 65535 ∧ 1 ≤ c.seq ∧ c.seq ≤ maxWord ∧ c.start ≤ c.stop ∧
    ¬(c.capacity.up = 0 ∧ c.capacity.down = 0)

/-- The rows stand for the slots from the current one on, the horizon row for the slot after them; a slot
above the last has no row (R45). -/
def PlanPlaced (p : Plan) (slot : Nat) : Prop :=
  p.rows.map PlanRow.slot = ((List.range' slot 192).filter fun n => decide (n ≤ maxWord)).map some ∧
    p.horizon.map PlanRow.slot = if slot + 192 ≤ maxWord then some (some (slot + 192)) else none

/-- The clock, the book, the planning array and the marked set belong together. -/
def BookSound (s : State) : Prop :=
  s.clock.slot ≤ maxWord ∧ s.clock.second ≤ 899 ∧ s.clock.ms ≤ 999 ∧
  s.book.records.Pairwise (fun a b => keyLess a.key b.key = true) ∧
  (s.book.records.map Commitment.id).Nodup ∧
  s.book.records.length ≤ 64 ∧ s.book.lastId ≤ 65535 ∧
  (∀ n, s.book.nextSeq = some n → 1 ≤ n ∧ n ≤ maxWord ∧ ∀ c ∈ s.book.records, c.seq < n) ∧
  (∀ c ∈ s.book.records, c.wellFormed) ∧
  (s.clock.set = false → s.book.records = [] ∧ ∀ r ∈ s.plan.all, r.slot = none) ∧
  (s.clock.set = true → PlanPlaced s.plan s.clock.slot ∧
    ∀ c ∈ s.book.records, c.placed s.clock.slot) ∧
  (∀ r ∈ s.plan.all, ∀ slot ∈ r.slot, (r.committed, r.required) = s.book.sums slot) ∧
  s.marked = (s.book.records.filter fun c => c.mark != .clear).map Commitment.id

/-! ### Levels (R80, R81, R86, R90) -/

/-- A level record keeps the law of R80, and a release in progress counts down from its length (R86). -/
def LevelRecord.sound (snapshot : Snapshot) (capacity : Sides) (l : LevelRecord) : Prop :=
  -4096 ≤ l.level ∧ l.level ≤ 4096 ∧ (capacity.up = 0 → l.level ≤ 0) ∧
    (capacity.down = 0 → 0 ≤ l.level) ∧ l.power = requiredPower capacity l.level ∧
    -(capacity.down : Int) ≤ l.power ∧ l.power ≤ capacity.up ∧
    (∀ d sup ramp lockout left, snapshot = .trig d sup ramp lockout →
      l.follower = .trig (.releasing left) → left ≤ 5 * ramp)

/-- Every level record is sound, and the unit's own count and target keep their ranges. -/
def LevelsSound (s : State) : Prop :=
  s.levels.holdover ≤ 255 ∧ -4096 ≤ s.levels.target ∧ s.levels.target ≤ 4096 ∧
    ∀ c ∈ s.book.records, ∀ l ∈ c.level, l.sound c.snapshot c.capacity

/-! ### The Fleet Table (R21, R22, R31, R34, R37, R41, R119) -/

/-- A latest report is clamped to its capacity, its limits in multiples of 10 W (R31, Table 2-3). -/
def Report.sound (r : Report) : Prop :=
  r.soc ≤ r.capacity ∧ r.floor ≤ r.capacity ∧ r.maxDischarge % 10 = 0 ∧ r.maxCharge % 10 = 0 ∧
    r.power % 10 = 0

/-- A running test: its unit is LIVE and its prior mode is not OFF (R34, R37). -/
def Mode.sound (link : LinkState) : Mode → Prop
  | .plain m => m.sound
  | .test t => link = .live ∧ t.prior ≠ .off ∧ t.prior.sound ∧ 0 < t.power ∧ t.power % 10 = 0

/-- One unit record, with the setpoint law of R119; `open_` says that an episode is open. -/
def UnitRecord.sound (open_ : Bool) (u : UnitRecord) : Prop :=
  u.g ≤ 4096 ∧ u.misses ≤ 255 ∧ u.holds.length ≤ 4 ∧ u.mode.sound u.link ∧
  (u.link = .live → u.report.isSome = true) ∧ (∀ r ∈ u.report, r.sound) ∧
  u.live.up % 10 = 0 ∧ u.live.down % 10 = 0 ∧
  u.setpoint % 10 = 0 ∧ u.participation % 10 = 0 ∧ u.restoration % 10 = 0 ∧
  (u.link ≠ .live ∨ u.isOff = true → u.setpoint = 0 ∧ u.participation = 0 ∧ u.restoration = 0) ∧
  (∀ r ∈ u.report, -(r.maxCharge : Int) ≤ u.setpoint ∧ u.setpoint ≤ r.maxDischarge) ∧
  (u.baseline.isSome = true → u.link = .live ∧ open_ = true)

/-- The Fleet Table and the enrolment lists it can be built from. -/
def FleetSound (s : State) : Prop :=
  (s.fleet.map Prod.fst).Pairwise (· < ·) ∧ (∀ e ∈ s.fleet, 1 ≤ e.1 ∧ e.1 ≤ 240) ∧
    (∀ e ∈ s.fleet, e.2.sound s.episodeOpen) ∧ (s.fleet.filter fun e => e.2.inTest).length ≤ 1 ∧
    EnrolmentSound s.store.slot1.enrolment ∧ EnrolmentSound s.store.slot2.enrolment ∧
    ∀ second p list, s.store.write = some (.image second p list) → EnrolmentSound list

/-! ### The Line Frequency Meter (R63 to R67, R71) -/

/-- The meter in LOCAL. -/
def Meter.localSound (nomfHigh : Bool) (m : Meter) : Prop :=
  m.silence = none ∧ (∀ p ∈ m.window, validPeriod nomfHigh p = true) ∧
    match m.state with
    | .acquiring => m.window.length ≤ 4
    | .valid => m.window.length = 5
    | .invalid => m.window = []
    | .lost => m.window = [] ∧ m.previous = none ∧ m.lossCompare = none

/-- The meter in RELAYED: the counter, the window and the previous capture take no part (R70). -/
def Meter.relayedSound (m : Meter) : Prop :=
  m.state ≠ .acquiring ∧ m.window = [] ∧ m.previous = none ∧ m.lossCompare = none

/-- The latest measurement is present exactly while the meter is VALID, within 5 Hz of nominal. -/
def MeterSound (s : State) : Prop :=
  (s.meter.latest.isSome = true ↔ s.meter.state = .valid) ∧
    (∀ f ∈ s.meter.latest, s.nominal - 5000 ≤ f ∧ f ≤ s.nominal + 5000) ∧ s.meter.badRun ≤ 255 ∧
    if s.straps.fsrcHigh then s.meter.relayedSound else s.meter.localSound s.straps.nomfHigh

/-! ### The fleet link (R115, R123, R126 to R129) -/

/-- FBDE is high while the controller transmits and at no other time; a visit is in progress unless the
controller paces; a running part that paces waits for its round timer. -/
def LinkSound (s : State) : Prop :=
  (s.link.fbde = true ↔ s.link.phase = .sending) ∧
    (s.link.visit = none ↔ s.link.phase = .pacing) ∧
    (∀ v ∈ s.link.visit, s.link.position = some v.address) ∧
    (∀ a ∈ s.link.position, 1 ≤ a ∧ a ≤ 240) ∧
    1 ≤ s.link.startIndex ∧ s.link.startIndex ≤ 240 ∧ s.link.round ≤ maxWord ∧
    1 ≤ s.apportioner.rotation ∧ s.apportioner.rotation ≤ 240 ∧
    (s.running = true → s.link.phase = .pacing → s.link.roundTimer.isSome = true)

/-! ### The Delivery Monitor (R140, R143, R144, R149) -/

/-- Credited delivered energy ≤ permitted energy ≤ required energy (R143). -/
def Accumulators.ordered (a : Accumulators) : Prop :=
  a.delivered ≤ a.permitted ∧ a.permitted ≤ a.required

/-- The laws of R143 and R149, with the numbering of R140 that holds the second. -/
def DeliverySound (s : State) : Prop :=
  ThermalSound s ∧
  (∀ e ∈ s.delivery.episode, e.energies.ordered ∧ e.contributors.length ≤ 8 ∧ e.grace ≤ 10 ∧
    e.shortRun ≤ 255 ∧ (∀ r ∈ s.delivery.log, r.number < e.number) ∧
    ∀ n ∈ s.delivery.nextNumber, e.number < n) ∧
  (∀ n ∈ s.delivery.nextNumber, 1 ≤ n ∧ n ≤ maxWord ∧ ∀ r ∈ s.delivery.log, r.number < n) ∧
  s.delivery.log.length ≤ 32 ∧ (s.delivery.log.map EpisodeRecord.number).Pairwise (· < ·) ∧
  ∀ r ∈ s.delivery.log, r.energies.ordered ∧ r.contributors.length ≤ 8

/-! ### The ports (R156, R161, R164, R165) -/

/-- One port under its attention mode and enable set: in LEVEL mode the line is high exactly while an
enabled kind is pending; in PULSE mode at most 15 pulses are owed, and none at rest; at most four BUSY
replies wait, and none waits while nothing is sent. -/
def PortState.sound (x : PortState) (carried enables : NoticeSet) (pulse : Bool) : Prop :=
  x.notices &&& ~~~carried = 0 ∧
  (pulse = false → x.line = (x.notices &&& enables != 0) ∧ x.gap = false ∧ x.owed = 0) ∧
  (pulse = true → x.owed ≤ 15 ∧ (x.line && x.gap) = false ∧
    (0 < x.owed → (x.line || x.gap) = true)) ∧
  (x.waiting.filter Reply.isBusy).length ≤ 4 ∧ (x.sending = none → x.waiting = [])

/-- Both ports; a part that does not run drives both lines low (R172). -/
def PortsSound (s : State) : Prop :=
  (∀ port, (s.port port).sound (carriedNotices port) (s.profile.enables port)
    (s.profile.pulseMode port)) ∧
  (s.running = false → ∀ port, (s.port port).line = false)

end Sys2Proof.Machine
end

