-- ==== Sys2Proof/Certificates/Slice0/Obligations.lean ====
section
/-! DEFINITION. The statements for the provers. -/

open Sys2Proof Sys2Proof.Machine

/-! ### The step and the queue -/

/-- The step takes the command at the front of the queue and runs it with the queue's rest. -/
def Obligations.StepTakesTheFrontCommand : Prop :=
  ∀ (s : State) (c : Instr) (rest : List Instr), s.pending = c :: rest →
    step s = exec c { s with pending := rest }

/-- On an empty queue one millisecond of device time passes while the part runs, and nothing while it
does not (the model's choice, log entry 1; R1 for the phase, R61 for the counter). -/
def Obligations.IdleStepIsOneMillisecond : Prop :=
  ∀ s : State, s.pending = [] →
    (s.running = false → step s = .next s) ∧
    (s.running = true → ∃ t, step s = .next t ∧
      t = { s with time := t.time, meter := t.meter, clock := t.clock } ∧ t.time = s.time + 10000 ∧
      t.meter = { s.meter with counter := s.meter.counter + 10000#24 } ∧
      t.clock = { s.clock with ms := t.clock.ms } ∧
      (s.clock.set = true → s.clock.ms < 999 → t.clock.ms = s.clock.ms + 1) ∧
      (s.clock.set = false → t.clock.ms = s.clock.ms))

/-- No command reads the queue or writes it: over any queue it has the same effect and leaves that
queue. -/
def Obligations.CommandsLeaveTheQueueAlone : Prop :=
  ∀ (c : Instr) (s t : State) (q : List Instr), exec c s = .next t →
    t.pending = s.pending ∧ exec c { s with pending := q } = .next { t with pending := q }

/-- An event that the state met cannot raise leaves the state as it is (the model's choice, log entry
2). -/
def Obligations.EventsThatCannotOccurChangeNothing : Prop :=
  ∀ (s : State) (port : Port) (id : BitVec 16) (code : Code) (length : Byte) (frame : List Byte),
    (s.resetLow = false → exec .resetPinRelease s = .next s) ∧
    ((∀ v, s.market.service = some v → v.kind ≠ .restart) → exec .restartReplySent s = .next s) ∧
    (s.store.write = none →
      exec .saveWriteComplete s = .next s ∧ exec .startupWriteComplete s = .next s) ∧
    (∀ first, (s.port port).receiver = .hunting first →
      exec (.requestDiscarded port) s = .next s ∧ exec (.receiverSilence port) s = .next s) ∧
    (s.profile.pulseMode port = false → exec (.attentionPulseTimer port) s = .next s) ∧
    (s.meter.lossCompare = none → exec .lossCompareExpiry s = .next s) ∧
    (s.meter.silence = none → exec .silenceTimerExpiry s = .next s) ∧
    (s.levels.ageTimer = none →
      exec .levelAgeLate s = .next s ∧ exec .levelAgeExpired s = .next s) ∧
    (s.book.find id.toNat = none →
      exec (.supportTimerExpiry id) s = .next s ∧ exec (.lockoutTimerExpiry id) s = .next s) ∧
    ((∀ e ∈ s.fleet, e.2.inTest = false) → exec .testTimerExpiry s = .next s) ∧
    (s.analog.converting = [] → exec (.conversionComplete code) s = .next s) ∧
    (s.link.roundTimer = none → exec .roundTimerExpiry s = .next s) ∧
    (s.link.phase ≠ .sending → exec .setpointFrameSent s = .next s) ∧
    ((∀ timeout, s.link.phase ≠ .awaiting timeout) →
      exec .replyTimeout s = .next s ∧ exec (.reportLengthInvalid length) s = .next s) ∧
    ((∀ wait bound, s.link.phase ≠ .quiet wait bound) →
      exec .quietEnd s = .next s ∧ exec .quietCharacterReceived s = .next s) ∧
    (frameComplete frame = false → exec (.reportFrameReceived frame) s = .next s)

/-! ### Supply, reset and start-up -/

/-- Each way to start (power-on, the RESET pin, RESTART) leaves what `Started` says, over the straps and
the store it starts with: every block in its reset state over the chosen profile, the first conversion set
begun, CLOCK pending and STORE where the start fell back, the attention lines and the pulses owed as they
follow (R73, R164, R165, R171, R172), round 0 begun with the first visit's frame, or pacing where the table
is empty (R124 to R127). The model's choices in it: a power-on of a part that runs starts it afresh (log
entry 7), the count of pulses owed falls as a pulse begins (log entry 8), a round with no visit holds none
(log entry 14), either row for the end of the RESTART reply resets the part (log entry 19), and the capture
counter starts at 0 (log entry 24). -/
def Obligations.StartsLoadTheChosenProfile : Prop :=
  (∀ (s : State) (nomf fsrc : Bool), s.resetLow = false →
    ∃ t, exec (.powerOn nomf fsrc) s = .next t ∧ Started ⟨nomf, fsrc⟩ s.store t) ∧
  (∀ s : State, s.resetLow = true → s.powered = true →
    ∃ t, exec .resetPinRelease s = .next t ∧ Started s.straps s.store t) ∧
  (∀ (s : State) (tag : Byte), s.running = true → s.market.service = some ⟨.restart, tag⟩ →
    (∃ t, exec .restartReplySent s = .next t ∧ Started s.straps s.store t) ∧
    ∀ reason body, s.market.sending = some ⟨0x1C#8, tag, .done, reason, body⟩ →
      ∃ t, exec (.replyTransmitted .market) s = .next t ∧ Started s.straps s.store t)

/-- Held in reset or without supply the part drives FBDE, MATN and OATN low, sends nothing, has lost its
book, its clock and any store write in progress, and keeps its straps and the rest of its store (R172);
losing the supply and pulling RESET low complete; no other command changes a held part (what else a held
part shows is the model's choice, log entry 7). -/
def Obligations.HeldPartDrivesItsLinesLow : Prop :=
  (∀ (s t : State) (nomf fsrc : Bool),
    (exec .supplyLoss s = .next t ∨ exec .resetPinLow s = .next t ∨
      (s.resetLow = true ∧ exec (.powerOn nomf fsrc) s = .next t) ∨
      (s.resetLow = true ∧ s.powered = false ∧ exec .resetPinRelease s = .next t)) →
    t.running = false ∧ t.link.fbde = false ∧ t.market.line = false ∧ t.operator.line = false ∧
    t.market.sending = none ∧ t.operator.sending = none ∧ t.market.service = none ∧
    t.book.records = [] ∧ t.clock.set = false ∧ t.delivery.episode = none ∧
    t.store = { s.store with write := none } ∧ t.pending = s.pending) ∧
  ((∀ s : State, ∃ t, exec .supplyLoss s = .next t ∧ t.powered = false ∧ t.resetLow = s.resetLow ∧
    t.straps = s.straps) ∧
  (∀ s : State, ∃ t, exec .resetPinLow s = .next t ∧ t.resetLow = true ∧ t.powered = s.powered ∧
    t.straps = s.straps)) ∧
  (∀ (s : State) (c : Instr), s.running = false → isPowerCommand c = false → exec c s = .next s)

/-- Every invariant of the blocks holds at reset, and the reset state is what a start leaves. That this start
is a power-on with both straps low over the store as manufactured (log entry 6), and that the capture counter
is 0 in it (log entry 24), are the model's choices. -/
def Obligations.ResetMeetsEveryBlockLaw : Prop :=
  ThermalSound State.reset ∧ BookSound State.reset ∧ LevelsSound State.reset ∧ FleetSound State.reset ∧
    MeterSound State.reset ∧ LinkSound State.reset ∧ DeliverySound State.reset ∧
    PortsSound State.reset ∧ Started ⟨false, false⟩ Store.manufactured State.reset ∧
    Store.manufactured =
      ⟨⟨.factory, [], true⟩, ⟨.factory, [], true⟩, ⟨.factory, true⟩, none⟩

/-! ### Requests and replies -/

/-- R155 cases 1, 3 and 4 for every kind of Table 10-1: BUSY (none once four wait, log entry 10),
NOT_ON_PORT, BAD_FIELD; and cases 1 and 2 for a code not in the table; nothing else of the part
changes. -/
def Obligations.RequestsAreTurnedAwayInOrder : Prop :=
  (∀ (s : State) (kind : RequestKind) (port : Port) (tag : Byte) (body : List Byte), s.running = true →
    ((s.port port).service.isSome = true →
      exec (kind.command port tag body) s =
        if (s.port port).sending.isSome = true ∧ 4 ≤ ((s.port port).waiting.filter Reply.isBusy).length
        then .next (s.setPort port { s.port port with receiver := .hunting false })
        else .next (s.replied port ⟨kind.code, tag, .busy, .clear, []⟩)) ∧
    ((s.port port).service = none → kind.permitted s.straps.fsrcHigh port = false →
      exec (kind.command port tag body) s = .next (s.refusedWith kind port tag .notOnPort)) ∧
    ((s.port port).service = none → kind.permitted s.straps.fsrcHigh port = true →
      body.length ≠ kind.bodyLength body →
      exec (kind.command port tag body) s = .next (s.refusedWith kind port tag .badField))) ∧
  (∀ (s : State) (port : Port) (kind tag : Byte) (body : List Byte), s.running = true →
    ((s.port port).service.isSome = true →
      exec (.unknownRequest port kind tag body) s =
        if (s.port port).sending.isSome = true ∧ 4 ≤ ((s.port port).waiting.filter Reply.isBusy).length
        then .next (s.setPort port { s.port port with receiver := .hunting false })
        else .next (s.replied port ⟨kind, tag, .busy, .clear, []⟩)) ∧
    ((s.port port).service = none →
      exec (.unknownRequest port kind tag body) s =
        .next (s.replied port ⟨kind, tag, .refused, .unknown, []⟩)))

/-- A byte in HUNTING moves the receiver by the start pair; a byte in RECEIVING joins the frame and
restarts the 50 ms silence while the frame is incomplete; a discarded frame and a receiver silent for 50 ms
return it to HUNTING and change nothing else (R154). -/
def Obligations.ReceiverGathersBytes : Prop :=
  (∀ (s : State) (port : Port) (b : Byte), s.running = true →
    (∀ first, (s.port port).receiver = .hunting first →
      exec (.portByteReceived port b) s = .next (s.setPort port { s.port port with
        receiver := if first = true ∧ b = 0x3C#8 then .receiving [] ⟨s.time, 500000⟩
          else .hunting (decide (b = 0xC3#8)) })) ∧
    (∀ length rest silence, (s.port port).receiver = .receiving (length :: rest) silence →
      2 ≤ length.toNat → length.toNat ≤ 242 → rest.length + 1 < length.toNat + 2 →
      exec (.portByteReceived port b) s = .next (s.setPort port { s.port port with
        receiver := .receiving (length :: rest ++ [b]) ⟨s.time, 500000⟩ }))) ∧
  (∀ (s : State) (port : Port) (bytes : List Byte) (silence : Timer), s.running = true →
    (s.port port).receiver = .receiving bytes silence →
    exec (.requestDiscarded port) s =
      .next (s.setPort port { s.port port with receiver := .hunting false }) ∧
    exec (.receiverSilence port) s =
      .next (s.setPort port { s.port port with receiver := .hunting false }))

/-- The bytes of a whole request frame with its check, received one after another, do what the request's
own command does: the receiver refines the request rows. A length outside 2..242, or a check that does not
match, discards the frame: only the receiver has moved, back to HUNTING (R154). -/
def Obligations.ByteStreamsRefineRequests : Prop :=
  (∀ (s : State) (port : Port) (kind tag : Byte) (body : List Byte) (first : Bool), s.running = true →
    (s.port port).receiver = .hunting first → body.length ≤ 240 →
    runAll ((requestBytes kind tag body).map (Instr.portByteReceived port)) s =
      match RequestKind.ofCode kind with
      | some k => exec (k.command port tag body) s
      | none => exec (.unknownRequest port kind tag body) s) ∧
  (∀ (s : State) (port : Port) (kind tag high low length : Byte) (body : List Byte) (first : Bool),
    s.running = true → (s.port port).receiver = .hunting first → body.length ≤ 240 →
    ((length.toNat < 2 ∨ 242 < length.toNat) →
      runAll ([0xC3#8, 0x3C#8, length].map (Instr.portByteReceived port)) s =
        .next (s.setPort port { s.port port with receiver := .hunting false })) ∧
    (high.toNat * 256 + low.toNat ≠ (crc16 (be 1 (2 + body.length) ++ [kind, tag] ++ body)).toNat →
      runAll (([0xC3#8, 0x3C#8] ++ (be 1 (2 + body.length) ++ [kind, tag] ++ body) ++ [high, low]).map
          (Instr.portByteReceived port)) s =
        .next (s.setPort port { s.port port with receiver := .hunting false })))

/-- The transmitter sends replies in the order formed (R156): the end of any reply but the DONE reply of a
RESTART in service, which ends in the reset (R157, log entry 19), starts the next that waits. -/
def Obligations.RepliesLeaveInOrder : Prop :=
  ∀ (s : State) (port : Port), s.running = true →
    (port = .operator ∨ (∀ v, s.market.service = some v → v.kind ≠ .restart) ∨
      ∀ r, s.market.sending = some r → r.kind ≠ 0x1C#8 ∨ r.outcome ≠ .done) →
    exec (.replyTransmitted port) s = .next (s.setPort port
      { s.port port with
        sending := (s.port port).waiting.head?, waiting := (s.port port).waiting.tail })

/-! ### Notices and attention -/

/-- A posting (R161): a port that carries the kind holds it after, and only it is new; a kind already
pending changes nothing; LEVEL mode judges the line (R164); in PULSE mode a new, enabled kind begins a
pulse at rest and otherwise owes one more, up to 15 (R165). The 1 ms timer of the line in PULSE mode: a
pulse ends and its low time runs; then the next owed pulse begins, or the line rests (the count falls as a
pulse begins, log entry 8). -/
def Obligations.AttentionPulsesAndPostings : Prop :=
  (∀ (s : State) (k : Notice) (port : Port),
    (s.post k) = { s with market := (s.post k).market, operator := (s.post k).operator } ∧
    (hasNotice (carriedNotices port) k = false → (s.post k).port port = s.port port) ∧
    (hasNotice (carriedNotices port) k = true → hasNotice (s.port port).notices k = true →
      (s.post k).port port = s.port port) ∧
    (hasNotice (carriedNotices port) k = true → hasNotice (s.port port).notices k = false →
      ∃ x, (s.post k).port port = x ∧
        x = { s.port port with notices := x.notices, line := x.line, owed := x.owed } ∧
        (∀ j, hasNotice x.notices j = (hasNotice (s.port port).notices j || j == k)) ∧
        (s.profile.pulseMode port = false →
          x.line = (x.notices &&& s.profile.enables port != 0) ∧ x.owed = (s.port port).owed) ∧
        (s.profile.pulseMode port = true → hasNotice (s.profile.enables port) k = false →
          x.line = (s.port port).line ∧ x.owed = (s.port port).owed) ∧
        (s.profile.pulseMode port = true → hasNotice (s.profile.enables port) k = true →
          if (s.port port).line = true ∨ (s.port port).gap = true then
            x.line = (s.port port).line ∧ x.owed = min 15 ((s.port port).owed + 1)
          else x.line = true ∧ x.owed = (s.port port).owed))) ∧
  (∀ (s : State) (port : Port), s.running = true → s.profile.pulseMode port = true →
    exec (.attentionPulseTimer port) s = .next (s.setPort port
      (if (s.port port).line = true then { s.port port with line := false, gap := true }
      else if (s.port port).gap = true then
        (if (s.port port).owed = 0 then { s.port port with gap := false }
        else { s.port port with line := true, gap := false, owed := (s.port port).owed - 1 })
      else s.port port)))

/-- NOTICE-READ answers the pending set and removes it; pulses owed stay owed (R162, R164, R165). -/
def Obligations.NoticeReadReturnsAndClears : Prop :=
  ∀ (s : State) (port : Port) (tag : Byte), Serves s .noticeRead port [] →
    exec (.noticeRead port tag []) s =
      .next ((s.setPort port { s.port port with
          notices := 0, line := s.profile.pulseMode port && (s.port port).line }).doneWith
        .noticeRead port tag (be 2 (s.port port).notices.toNat))

/-- NOTICE-MASK writes the enables of the kinds selected, and no others; the line is judged at once in
LEVEL mode and gives no pulse in PULSE mode; a kind the port does not carry is refused (R163). -/
def Obligations.NoticeMaskWritesSelectedEnables : Prop :=
  ∀ (s : State) (port : Port) (tag : Byte) (body : List Byte), Serves s .noticeMask port body →
    PortsSound s →
    (BitVec.ofNat 12 (field body 0 2) &&& ~~~(carriedNotices port) ≠ 0 →
      exec (.noticeMask port tag body) s = .next (s.refusedWith .noticeMask port tag .badField)) ∧
    (BitVec.ofNat 12 (field body 0 2) &&& ~~~(carriedNotices port) = 0 →
      ∃ (e : NoticeSet) (p : Profile),
        (∀ k, hasNotice e k =
          if hasNotice (BitVec.ofNat 12 (field body 0 2)) k then
            hasNotice (BitVec.ofNat 12 (field body 2 2)) k
          else hasNotice (s.profile.enables port) k) ∧
        p.enables port = e ∧ (∀ i, i ≠ enableParam port → p.get i = s.profile.get i) ∧
        exec (.noticeMask port tag body) s =
          .next (({ s with profile := p }.setPort port { s.port port with
              line := if s.profile.pulseMode port then (s.port port).line
                else (s.port port).notices &&& e != 0 }).doneWith
            .noticeMask port tag (be 2 e.toNat)))

/-- The law of the ports, kept by every step (R156, R161, R164, R165, R172). -/
def Obligations.EveryStepKeepsThePorts : Prop :=
  ∀ s t : State, PortsSound s → step s = .next t → PortsSound t

/-! ### Status and layouts -/

/-- STATUS-READ changes nothing and answers the figures of R158 at the places Table 10-6 gives them. That all
of them are those of one state is the model's choice (log entry 26). -/
def Obligations.StatusReadAnswersTheFigures : Prop :=
  ∀ (s : State) (port : Port) (tag : Byte), Serves s .statusRead port [] → BookSound s → FleetSound s →
    ∃ b, exec (.statusRead port tag []) s = .next (s.doneWith .statusRead port tag b) ∧ b.length = 33 ∧
      field b 0 1 = s.clock.set.toNat ∧
      field b 1 4 = (if s.clock.set then s.clock.slot else 0) ∧
      field b 5 2 = (if s.clock.set then s.clock.second else 0) ∧
      field b 7 1 = s.straps.nomfHigh.toNat + 2 * s.straps.fsrcHigh.toNat ∧
      field b 8 1 = s.book.records.length ∧
      field b 9 1 = (s.fleet.filter fun e => e.2.link == .joining).length ∧
      field b 10 1 = (s.fleet.filter fun e => e.2.link == .live).length ∧
      field b 11 1 = (s.fleet.filter fun e => e.2.link == .stale).length ∧
      field b 12 1 = (s.fleet.filter fun e => e.2.link == .lost).length ∧
      field b 13 1 = 240 - s.fleet.length ∧
      (field b 14 1 = 1 ↔ ∃ e ∈ s.fleet, e.2.inTest = true) ∧
      (∀ e ∈ s.fleet, e.2.inTest = true → field b 15 1 = e.1) ∧
      field b 16 1 = s.delivery.episode.isSome.toNat ∧
      (∀ e, s.delivery.episode = some e → e.number ≤ maxWord → field b 17 4 = e.number) ∧
      field b 21 1 = s.meter.state.code ∧
      (-40000 ≤ s.thermal.theta → s.thermal.theta ≤ 200000 → fieldInt b 22 4 = s.thermal.theta) ∧
      field b 26 1 = s.thermal.zone.code ∧ field b 27 1 = s.thermal.direction.code ∧
      field b 28 1 = s.analog.ia.present.toNat + 2 * s.analog.ib.present.toNat
        + 4 * s.analog.ic.present.toNat + 8 * s.analog.pnet.present.toNat
        + 16 * s.analog.ia.overRange.toNat + 32 * s.analog.ib.overRange.toNat
        + 64 * s.analog.ic.overRange.toNat + 128 * s.analog.pnet.overRange.toNat ∧
      (s.link.round ≤ maxWord → field b 29 4 = s.link.round)

/-- The byte order of a field, two's complement, and the CRC-16 bit by bit (R154, R166); Tables 10-1 and
10-3 (codes, ports and body lengths of the request kinds), the reason codes, the codes of R166, the bits of a
notice set and the kinds each port carries. Then the layouts of Tables 10-4 and 10-6 and the frames of Tables
10-2 and 10-5: their lengths, and every field at its place, the entries beyond a count sent 0. That a number
too wide for its field is sent as its low-order bytes is the model's choice (log entry 12). -/
def Obligations.LayoutsHaveTheirLengths : Prop :=
  (((∀ (b : List Byte) (i n : Nat), field b i 0 = 0 ∧
      (∀ x : Byte, b[i + n]? = some x → field b i (n + 1) = field b i n * 256 + x.toNat) ∧
      fieldInt b i n = if 256 ^ n ≤ 2 * field b i n then (field b i n : Int) - (256 ^ n : Nat)
        else field b i n) ∧
    (∀ n v : Nat, (be n v).length = n ∧ field (be n v) 0 n = v % 256 ^ n) ∧
    (∀ (n : Nat) (x : Int), (beInt n x).length = n ∧
      (-(256 ^ n : Int) ≤ 2 * x → 2 * x < 256 ^ n → fieldInt (beInt n x) 0 n = x)) ∧
    (∃ shift : Check → Check,
      (∀ c, shift c = if c.msb then (c <<< 1) ^^^ 0x1021#16 else c <<< 1) ∧ crc16 [] = 0xFFFF#16 ∧
      ∀ (l : List Byte) (b : Byte), crc16 (l ++ [b]) =
        shift (shift (shift (shift (shift (shift (shift (shift
          (crc16 l ^^^ (b.setWidth 16 <<< 8)))))))))) ∧
    crc16 [0x31#8, 0x32#8, 0x33#8, 0x34#8, 0x35#8, 0x36#8, 0x37#8, 0x38#8, 0x39#8] = 0x29B1#16) ∧
  ((∀ (kind : RequestKind) (relayed : Bool) (body : List Byte),
    (kind.code.toNat, kind.permitted relayed .market, kind.permitted relayed .operator,
        kind.bodyLength body) =
      match kind with
      | .award => (0x01, true, false, 1 + 28 * field body 0 1)
      | .withdraw => (0x02, true, false, 2)
      | .release => (0x03, false, true, 2)
      | .bookOpen => (0x04, true, true, 0)
      | .bookNext => (0x05, true, true, 0)
      | .timeSync => (0x06, false, true, 6)
      | .level => (0x07, false, true, 4)
      | .freq => (0x08, false, relayed, 4)
      | .planRead => (0x09, true, false, 5)
      | .availRead => (0x0A, true, true, 0)
      | .enrol => (0x0B, true, false, 13)
      | .retire => (0x0C, true, false, 1)
      | .unitMode => (0x0D, true, false, 11)
      | .unitTest => (0x0E, true, false, 1)
      | .unitRead => (0x0F, true, false, 1)
      | .logOpen => (0x10, true, true, 0)
      | .logNext => (0x11, true, true, 0)
      | .deliveryRead => (0x12, false, true, 0)
      | .paramSet => (0x13, true, false, 5)
      | .paramRead => (0x14, true, true, 1)
      | .paramDescribe => (0x15, true, true, 1)
      | .profileSave => (0x16, true, false, 1)
      | .profileLoad => (0x17, true, false, 1)
      | .profileStartup => (0x18, true, false, 1)
      | .noticeRead => (0x19, true, true, 0)
      | .noticeMask => (0x1A, true, true, 4)
      | .statusRead => (0x1B, true, true, 0)
      | .restart => (0x1C, true, false, 0)) ∧
    (∀ (code : Byte) (kind : RequestKind),
      RequestKind.ofCode code = some kind ↔ kind.code = code)) ∧
  ((∀ r : Reason, r.code.toNat = match r with
      | .clear => 0x00
      | .badField => 0x01
      | .notFound => 0x02
      | .wrongState => 0x03
      | .inUse => 0x04
      | .testRunning => 0x05
      | .notOpen => 0x06
      | .backward => 0x07
      | .noTime => 0x08
      | .order => 0x09
      | .storeInvalid => 0x0A
      | .notOnPort => 0x0B
      | .unknown => 0x0C
      | .tooLate => 0x0D
      | .beyondHorizon => 0x0E
      | .full => 0x0F
      | .noHeadroom => 0x10) ∧
    (∀ m : MeterState, m.code = match m with
      | .acquiring => 0
      | .valid => 1
      | .invalid => 2
      | .lost => 3) ∧
    (∀ z : Zone, z.code = match z with
      | .normal => 0
      | .warning => 1
      | .critical => 2) ∧
    (∀ d : Throttled, d.code = match d with
      | .up => 0
      | .down => 1
      | .both => 2) ∧
    (∀ (set : NoticeSet) (k : Notice), hasNotice set k = set.getLsbD (match k with
      | .book => 0
      | .risk => 1
      | .episodeOpen => 2
      | .episodeClosed => 3
      | .shortfall => 4
      | .freq => 5
      | .thermal => 6
      | .levelLost => 7
      | .clock => 8
      | .unit => 9
      | .test => 10
      | .store => 11)) ∧
    ∀ (port : Port) (k : Notice), hasNotice (carriedNotices port) k =
      (port == .market || !(k == .unit || k == .test || k == .store)))) ∧
  ((∀ c : Commitment, c.bytes.length = 51 ∧
      Places c.bytes
        [(0, 2, c.id), (2, 4, c.marketRef), (6, 4, c.seq), (11, 4, c.start), (15, 4, c.stop),
          (19, 4, c.capacity.up), (23, 4, c.capacity.down), (33, 4, min c.requirement.up maxWord),
          (37, 4, min c.requirement.down maxWord),
          (42, 1, match c.mark with
            | .clear => 0
            | .planning => 1
            | .live => 2)] ∧
      (∀ db full eu ed, c.snapshot = .prop db full eu ed → Places c.bytes
        [(10, 1, 1), (27, 2, db), (29, 2, full), (31, 1, eu), (32, 1, ed)]) ∧
      (∀ d support ramp lockout, c.snapshot = .trig d support ramp lockout → Places c.bytes
        [(10, 1, 2), (27, 2, d), (29, 1, support), (30, 1, ramp), (31, 2, lockout)]) ∧
      (∀ e ramp, c.snapshot = .setp e ramp → Places c.bytes
        [(10, 1, 3), (27, 1, e), (28, 2, ramp), (30, 3, 0)]) ∧
      (c.standing = .pending → Places c.bytes [(41, 1, 0), (43, 2, 0), (45, 4, 0), (49, 2, 0)]) ∧
      (∀ l, c.standing = .inForce l → Places c.bytes [(41, 1, 1)]) ∧
      (∀ l, c.standing = .overrun l → Places c.bytes [(41, 1, 2)]) ∧
      ∀ l, (c.standing = .inForce l ∨ c.standing = .overrun l) →
        SignedPlaces c.bytes [(43, 2, l.level), (45, 4, l.power)] ∧
        (∀ count, l.follower = .trig (.ready count) → Places c.bytes [(49, 1, 0), (50, 1, count)]) ∧
        (∀ timer, l.follower = .trig (.firing timer) → Places c.bytes [(49, 1, 1), (50, 1, 0)]) ∧
        (∀ left, l.follower = .trig (.releasing left) → Places c.bytes [(49, 1, 2), (50, 1, 0)]) ∧
        (∀ timer, l.follower = .trig (.lockout timer) → Places c.bytes [(49, 1, 3), (50, 1, 0)]) ∧
        ((∀ phase, l.follower ≠ .trig phase) → Places c.bytes [(49, 2, 0)])) ∧
    (∀ (body : List Byte) (k : Nat) (r : AwardRecord), (awardRecords body)[k]? = some r →
      Places body [(1 + 28 * k, 4, r.marketRef), (5 + 28 * k, 1, r.product), (6 + 28 * k, 4, r.start),
        (10 + 28 * k, 4, r.stop), (14 + 28 * k, 4, r.capacity.up), (18 + 28 * k, 4, r.capacity.down),
        (22 + 28 * k, 1, r.presence.toNat)] ∧
      r.params = (body.drop (23 + 28 * k)).take 6)) ∧
  ((∀ (now a : Nat) (u : UnitRecord), u.holds.length ≤ 4 → (u.bytes now a).length = 128 ∧
      ∃ b, b = u.bytes now a ∧
      Places b
        [(0, 1, a), (2, 1, u.misses), (13, 2, u.g), (36, 1, u.holds.length), (81, 4, u.live.up),
          (85, 4, u.live.down),
          (1, 1, match u.link with
            | .joining => 0
            | .live => 1
            | .stale => 2
            | .lost => 3),
          (15, 1, u.bars.fault.toNat + 2 * u.bars.optOut.toNat + 4 * u.bars.lowResponse.toNat)] ∧
      SignedPlaces b [(89, 4, u.participation), (93, 4, u.restoration), (97, 4, u.setpoint)] ∧
      (∀ m, (u.mode = .plain m ∨ ∃ t, u.mode = .test t ∧ t.prior = m) →
        (field b 4 1).testBit 0 = (match m with
          | .manual _ => true
          | _ => false) ∧
        (∀ d, m = .manual d → Places b [(5, 4, d.up), (9, 4, d.down)]) ∧
        ((∀ d, m ≠ .manual d) → Places b [(5, 8, 0)]) ∧
        (u.mode = .plain m → Places b [(3, 1, match m with
          | .off => 0
          | .auto => 1
          | .manual _ => 2), (105, 20, 0)] ∧ (field b 4 1).testBit 3 = false) ∧
        ∀ t, u.mode = .test t → (field b 4 1).testBit 3 = true ∧
          Places b [(3, 1, 3), (105, 4, (now - t.start) / 10000),
            (109, 1, match m with
              | .off => 0
              | .auto => 1
              | .manual _ => 2),
            (114, 4, t.power), (118, 1, t.duration), (119, 2, t.count)] ∧
          SignedPlaces b [(110, 4, t.preTest), (121, 4, t.accumulator)]) ∧
      (field b 4 1).testBit 1 = u.report.isSome ∧ (u.report = none → Places b [(16, 20, 0)]) ∧
      (∀ r, u.report = some r →
        Places b [(16, 2, r.soc), (18, 2, r.capacity), (24, 4, r.maxDischarge), (28, 4, r.maxCharge),
          (32, 2, r.floor), (34, 1, r.fault), (35, 1, r.optOut.toNat)] ∧
        SignedPlaces b [(20, 4, r.power)]) ∧
      (∀ (k : Nat) (h : Hold), u.holds[k]? = some h →
        Places b [(37 + 11 * k, 4, h.start), (41 + 11 * k, 4, h.stop)] ∧
        (h.kind = .withdraw → Places b [(45 + 11 * k, 1, 1), (46 + 11 * k, 2, 0)]) ∧
        ∀ e, h.kind = .floor e → Places b [(45 + 11 * k, 1, 2), (46 + 11 * k, 2, e)]) ∧
      (∀ k, u.holds.length ≤ k → k < 4 → field b (37 + 11 * k) 11 = 0) ∧
      (field b 4 1).testBit 2 = u.baseline.isSome ∧ (u.baseline = none → Places b [(101, 4, 0)]) ∧
      (∀ x, u.baseline = some x → SignedPlaces b [(101, 4, x)]) ∧
      (field b 4 1).testBit 4 = u.lastTest.isSome ∧ (u.lastTest = none → Places b [(125, 3, 0)]) ∧
      (∀ g, u.lastTest = some (.passed g) → Places b [(125, 1, 0), (126, 2, g)]) ∧
      (∀ g, u.lastTest = some (.low g) → Places b [(125, 1, 1), (126, 2, g)]) ∧
      (u.lastTest = some .aborted → Places b [(125, 1, 2), (126, 2, 0)])) ∧
    (∀ (a : Availability) (m : MeterState) (z : Zone), (a.bytes m z).length = 53 ∧
      Places (a.bytes m z)
        [(0, 1, a.stamp.isSome.toNat), (7, 1, a.eligible), (8, 4, a.power.up), (12, 4, a.power.down),
          (16, 4, min a.energy.up maxWord), (20, 4, min a.energy.down maxWord), (24, 1, a.forceCount),
          (25, 4, a.forceCapacity.up), (29, 4, a.forceCapacity.down),
          (33, 4, min a.forceRequirement.up maxWord), (37, 4, min a.forceRequirement.down maxWord),
          (41, 1, a.liveMarked), (42, 4, a.liveMarkedCapacity.up), (46, 4, a.liveMarkedCapacity.down),
          (50, 1, a.planningMarked), (51, 1, m.code), (52, 1, z.code)] ∧
      (a.stamp = none → Places (a.bytes m z) [(1, 6, 0)]) ∧
      ∀ slot second, a.stamp = some (slot, second) →
        Places (a.bytes m z) [(1, 4, slot), (5, 2, second)]) ∧
    (∀ (m : Nat) (r : PlanRow), (r.bytes m).length = 52 ∧
      Places (r.bytes m)
        [(4, 4, r.power.up), (8, 4, r.power.down), (12, 4, min r.energy.up maxWord),
          (16, 4, min r.energy.down maxWord), (20, 4, r.power.up * m / 4096),
          (24, 4, min (r.energy.up * m / 4096) maxWord), (28, 4, r.power.down * m / 4096),
          (32, 4, min (r.energy.down * m / 4096) maxWord), (36, 4, r.committed.up),
          (40, 4, r.committed.down), (44, 4, min r.required.up maxWord),
          (48, 4, min r.required.down maxWord)] ∧
      ∀ slot, r.slot = some slot → Places (r.bytes m) [(0, 4, slot)])) ∧
  ((∀ r : EpisodeRecord, r.contributors.length ≤ 8 → r.bytes.length = 104 ∧
      Places r.bytes
        [(0, 4, r.number), (4, 4, r.openSlot), (8, 2, r.openSecond), (10, 4, r.closeSlot),
          (14, 2, r.closeSecond), (16, 1, r.contributors.length), (73, 1, r.overflow.toNat),
          (74, 4, r.peak), (78, 4, min r.energies.required maxWord),
          (82, 4, min r.energies.permitted maxWord), (86, 4, min r.energies.delivered maxWord),
          (90, 4, min r.energies.gridLimited maxWord), (94, 4, min r.energies.shortfall maxWord),
          (98, 4, r.shortCycles),
          (102, 1, match r.outcome with
            | .met => 0
            | .short => 1),
          (103, 1, r.gridLimited.toNat)] ∧
      ContributorPlaces r.bytes 17 id r.contributors) ∧
    (∀ (n : Nat) (e : Episode), e.contributors.length ≤ 8 → (e.bytes n).length = 117 ∧
      Places (e.bytes n)
        [(0, 4, e.number), (4, 4, e.openSlot), (8, 2, e.openSecond),
          (10, 4, min (e.energies.required / 18000) maxWord),
          (14, 4, min (e.energies.permitted / 18000) maxWord),
          (18, 4, min (e.energies.gridLimited / 18000) maxWord),
          (22, 4, min (e.energies.delivered / 18000) maxWord),
          (26, 4, min (e.energies.shortfall / 18000) maxWord), (30, 4, e.peak),
          (34, 1, e.contributors.length), (91, 1, e.overflow.toNat), (92, 4, e.shortCycles),
          (96, 1, e.shortRun), (97, 1, e.grace), (98, 2, e.quiet), (116, 1, n)] ∧
      SignedPlaces (e.bytes n) [(100, 4, e.delivered), (104, 4, e.lastRequired),
        (108, 4, e.lastPermitted), (112, 4, e.lastAsked)] ∧
      ContributorPlaces (e.bytes n) 35 (fun x => x / 18000) e.contributors)) ∧
  (∀ s : State, s.statusBytes.length = 33) ∧
  (∀ f : SetpointFrame, f.bytes.length = 10 ∧
    Places f.bytes
      [(0, 1, 10), (1, 1, 1), (2, 1, f.address),
        (7, 1, f.participating.toNat + 2 * f.restoring.toNat + 4 * f.test.toNat + 8 * f.episode.toNat),
        (8, 2, (crc16 (f.bytes.take 8)).toNat)] ∧
    SignedPlaces f.bytes [(3, 4, f.setpoint)]) ∧
  (∀ r : Reply, r.frame.length = r.body.length + 9 ∧
    Places r.frame
      [(0, 2, 49980), (2, 1, 4 + r.body.length), (3, 1, r.kind.toNat), (4, 1, r.tag.toNat),
        (5, 1, match r.outcome with
          | .done => 0
          | .busy => 1
          | .refused => 2),
        (6, 1, r.reason.code.toNat),
        (7 + r.body.length, 2, (crc16 ((r.frame.drop 2).take (5 + r.body.length))).toNat)] ∧
    (r.frame.drop 7).take r.body.length = r.body)

/-- AVAIL-READ, DELIVERY-READ and UNIT-READ change nothing and answer what the owner holds (R57, R151,
R26); that AVAIL-READ's reply gives no throttled direction, which R105 has it read, is the model's choice (log
entry 23). PLAN-READ is refused NO_TIME without a clock and BAD_FIELD outside its ranges; otherwise it answers
the margin and the rows from the first slot on, as many as exist (R58). That NO_TIME is answered where the
row count is out of range too is the model's choice (log entry 9). -/
def Obligations.ReadsAnswerTheRecords : Prop :=
  ((∀ (s : State) (port : Port) (tag : Byte), Serves s .availRead port [] →
    exec (.availRead port tag []) s =
      .next (s.doneWith .availRead port tag (s.avail.bytes s.meter.state s.thermal.zone))) ∧
  (∀ (s : State) (port : Port) (tag : Byte), Serves s .deliveryRead port [] →
    exec (.deliveryRead port tag []) s = .next (s.doneWith .deliveryRead port tag
      (match s.delivery.episode with
        | none => [1#8]
        | some e => 0#8 :: e.bytes (s.fleet.filter fun x => x.2.baseline.isSome).length))) ∧
  (∀ (s : State) (port : Port) (tag a : Byte), Serves s .unitRead port [a] →
    exec (.unitRead port tag [a]) s =
      if 1 ≤ a.toNat ∧ a.toNat ≤ 240 then
        .next (s.doneWith .unitRead port tag
          (match Fleet.get s.fleet a.toNat with
            | none => [1#8]
            | some u => 0#8 :: u.bytes s.time a.toNat))
      else .next (s.refusedWith .unitRead port tag .badField))) ∧
  (∀ (s : State) (tag : Byte) (body : List Byte), Serves s .planRead .market body →
    (s.clock.set = false →
      exec (.planRead .market tag body) s = .next (s.refusedWith .planRead .market tag .noTime)) ∧
    (s.clock.set = true →
      (field body 4 1 < 1 ∨ 4 < field body 4 1 ∨ field body 0 4 < s.clock.slot ∨
        s.clock.slot + 192 < field body 0 4) →
      exec (.planRead .market tag body) s = .next (s.refusedWith .planRead .market tag .badField)) ∧
    (s.clock.set = true → BookSound s → 1 ≤ field body 4 1 → field body 4 1 ≤ 4 →
      s.clock.slot ≤ field body 0 4 → field body 0 4 ≤ s.clock.slot + 192 →
      ∃ rows : List PlanRow,
        rows.map PlanRow.slot = ((List.range' (field body 0 4) (field body 4 1)).filter fun n =>
          decide (n ≤ s.clock.slot + 192 ∧ n ≤ maxWord)).map some ∧
        (∀ r ∈ rows, r ∈ s.plan.all) ∧
        exec (.planRead .market tag body) s = .next (s.doneWith .planRead .market tag
          (be 2 (s.profile.nat .margin) ++ be 1 rows.length
            ++ rows.flatMap (PlanRow.bytes (s.profile.nat .margin))))))

/-! ### The Slot Clock -/

/-- TIME-SYNC: BAD_FIELD; the setting of an UNSET clock, which builds the array over an empty book and
posts CLOCK; the same slot; BACKWARD; and a forward jump, which is its run of boundaries, one for each slot
crossed and in rising order, and then the second carried (R3, R4, R13, R50). That SLOT_BOUNDARY stands for
each of them from whatever second the clock holds, and that the jump is taken whole in one step, are the
model's choices (log entries 3 and 15). -/
def Obligations.TimeSyncSetsTheClock : Prop :=
  (∀ (s : State) (tag : Byte) (body : List Byte), Serves s .timeSync .operator body →
    ((899 < field body 4 2 ∨ 4294967102 < field body 0 4) →
      exec (.timeSync .operator tag body) s =
        .next (s.refusedWith .timeSync .operator tag .badField)) ∧
    (field body 4 2 ≤ 899 → field body 0 4 ≤ 4294967102 → s.clock.set = false →
      ∃ p : Plan, PlanPlaced p (field body 0 4) ∧
        (∀ r ∈ p.all, r.committed = ⟨0, 0⟩ ∧ r.required = ⟨0, 0⟩ ∧
          r = r.refresh s.profile s.fleet) ∧
        exec (.timeSync .operator tag body) s =
          .next ((State.post { s with clock := ⟨true, field body 0 4, field body 4 2, 0⟩, plan := p }
            .clock).doneWith .timeSync .operator tag (be 4 (field body 0 4) ++ be 2 (field body 4 2)))) ∧
    (field body 4 2 ≤ 899 → field body 0 4 ≤ 4294967102 → s.clock.set = true →
      field body 0 4 = s.clock.slot →
      exec (.timeSync .operator tag body) s =
        .next ({ s with clock := ⟨true, s.clock.slot, field body 4 2, 0⟩ }.doneWith
          .timeSync .operator tag (be 4 (field body 0 4) ++ be 2 (field body 4 2)))) ∧
    (field body 4 2 ≤ 899 → field body 0 4 ≤ 4294967102 → s.clock.set = true →
      field body 0 4 < s.clock.slot →
      exec (.timeSync .operator tag body) s =
        .next (s.refusedWith .timeSync .operator tag .backward))) ∧
  (∀ (s : State) (tag : Byte) (body : List Byte), Serves s .timeSync .operator body →
    field body 4 2 ≤ 899 → field body 0 4 ≤ 4294967102 → s.clock.set = true →
    s.clock.slot < field body 0 4 →
    ∃ u, runAll (List.replicate (field body 0 4 - s.clock.slot) .slotBoundary) s = .next u ∧
      exec (.timeSync .operator tag body) s =
        .next ({ u with clock := ⟨true, field body 0 4, field body 4 2, 0⟩ }.doneWith
          .timeSync .operator tag (be 4 (field body 0 4) ++ be 2 (field body 4 2))))

/-- A boundary into slot n: an IN_FORCE record that has ended is removed, or becomes OVERRUN in FIRING or
RELEASING; a PENDING record due starts at level 0; no other record changes; the array moves one row on,
each row as it was, the old horizon row with its fleet part afresh, the new one with nothing committed
(R11, R12, R49, R78). A second's end advances the second and returns the phase to 0, and nothing else
moves; an UNSET clock stays as it is; in the last slot the second holds at 899 and no boundary is raised
(R1, R2). That the two commands act so from any second and any phase, and that a second ending at 899 of an
earlier slot is left to the boundary, is the model's choice (log entry 3). -/
def Obligations.BoundarySettlesTheBook : Prop :=
  (∀ s : State, s.running = true → BookSound s → s.clock.set = true → s.clock.slot < maxWord →
    ∃ t, exec .slotBoundary s = .next t ∧
      t = { s with
        clock := t.clock, book := t.book, plan := t.plan, marked := t.marked
        market := t.market, operator := t.operator } ∧
      t.clock = ⟨true, s.clock.slot + 1, 0, 0⟩ ∧
      t.book = { s.book with records := s.book.records.filterMap fun c =>
        match c.standing with
        | .pending =>
          if c.start = s.clock.slot + 1 then
            some { c with standing := .inForce ⟨0, 0,
              match c.snapshot with
              | .prop _ _ _ _ => .prop
              | .trig _ _ _ _ => .trig (.ready 0)
              | .setp _ ramp => .setp (max 1 (4096 / (5 * ramp)))⟩ }
          else some c
        | .inForce l =>
          if s.clock.slot + 1 ≤ c.stop then some c
          else
            match l.follower with
            | .trig (.firing _) => some { c with standing := .overrun l }
            | .trig (.releasing _) => some { c with standing := .overrun l }
            | _ => none
        | .overrun _ => some c } ∧
      t.marked = s.marked.filter (fun i => t.book.records.any fun c => c.id == i) ∧
      PlanPlaced t.plan (s.clock.slot + 1) ∧
      t.plan.rows = s.plan.rows.drop 1
        ++ (s.plan.horizon.map (PlanRow.refresh s.profile s.fleet)).toList ∧
      (∀ r, t.plan.horizon = some r →
        r.committed = ⟨0, 0⟩ ∧ r.required = ⟨0, 0⟩ ∧ r = r.refresh s.profile s.fleet) ∧
      (t.book ≠ s.book → ∀ port, t.port port = (s.post .book).port port) ∧
      (t.book = s.book → ∀ port, t.port port = s.port port)) ∧
  ((∀ s : State, s.running = true → s.clock.set = true → s.clock.second < 899 →
    exec .secondInSlotAdvance s =
      .next { s with clock := ⟨true, s.clock.slot, s.clock.second + 1, 0⟩ }) ∧
  (∀ s : State, s.running = true → s.clock.set = true → 899 ≤ s.clock.second →
    s.clock.slot < maxWord → exec .secondInSlotAdvance s = .next s) ∧
  (∀ s : State, s.running = true → s.clock.set = true → s.clock.slot = 4294967295 →
    exec .slotBoundary s = .next { s with clock := ⟨true, 4294967295, 899, 0⟩ } ∧
    (s.clock.second = 899 →
      exec .secondInSlotAdvance s = .next { s with clock := ⟨true, 4294967295, 899, 0⟩ })) ∧
  (∀ s : State, s.clock.set = false →
    exec .secondInSlotAdvance s = .next s ∧ exec .slotBoundary s = .next s))

/-! ### The Commitment Book -/

/-- One award record that meets the six checks of R9 is admitted PENDING and unmarked under the next free
id and sequence, at the position its key gives (start slot, then sequence; R5), its sums join the rows it
covers, and BOOK is posted (R6, R7, R9, R10, R47). Its snapshot takes each parameter as carried, within its
range, or the default of the working profile (R7, R9, Tables 10-4 and 11-2), and its energy requirement is
that of R44, rounded up. -/
def Obligations.AwardAdmitsWhatPasses : Prop :=
  (∀ (p : Profile) (r : AwardRecord) (snapshot : Snapshot),
    ∃ (value : Nat → Nat → Nat → ParamId → Nat) (fits : Nat → Nat → Nat → Nat → Nat → Prop),
      (∀ bit at_ n i, value bit at_ n i =
        if r.presence.getLsbD bit then field r.params at_ n else p.nat i) ∧
      (∀ bit at_ n lo hi, fits bit at_ n lo hi ↔
        (r.presence.getLsbD bit = true → lo ≤ field r.params at_ n ∧ field r.params at_ n ≤ hi)) ∧
      (awardSnapshot p r = some snapshot ↔
        (r.product = 1 ∧ fits 0 0 2 0 200 ∧ fits 1 2 2 50 1000 ∧ fits 2 4 1 15 120 ∧
          fits 3 5 1 15 120 ∧ value 0 0 2 .deadband < value 1 2 2 .fullDeviation ∧
          snapshot = .prop (value 0 0 2 .deadband) (value 1 2 2 .fullDeviation)
            (value 2 4 1 .enduranceUp) (value 3 5 1 .enduranceDown)) ∨
        (r.product = 2 ∧ fits 0 0 2 100 1000 ∧ fits 1 2 1 2 60 ∧ fits 2 3 1 0 30 ∧
          fits 3 4 2 0 900 ∧
          snapshot = .trig (value 0 0 2 .trigDeviation) (value 1 2 1 .trigSupport)
            (value 2 3 1 .trigRamp) (value 3 4 2 .trigLockout)) ∨
        (r.product = 3 ∧ fits 0 0 1 15 240 ∧ fits 1 1 2 1 300 ∧
          snapshot = .setp (value 0 0 1 .setpEndurance) (value 1 1 2 .setpRamp)))) ∧
  (∀ (capacity : Sides) (db full eu ed d support ramp lockout : Nat),
    energyRequirement capacity (.prop db full eu ed) =
      ⟨(capacity.up * eu + 59) / 60, (capacity.down * ed + 59) / 60⟩ ∧
    energyRequirement capacity (.trig d support ramp lockout) =
      ⟨(capacity.up * support + 3599) / 3600, 0⟩ ∧
    energyRequirement capacity (.setp eu ramp) =
      ⟨(capacity.up * eu + 59) / 60, (capacity.down * eu + 59) / 60⟩) ∧
  (∀ (s : State) (tag : Byte) (body : List Byte) (r : AwardRecord) (snapshot : Snapshot) (seq : Nat),
    Serves s .award .market body → field body 0 1 = 1 → awardRecords body = [r] → BookSound s →
    s.clock.set = true → s.clock.slot < r.start → r.stop ≤ s.clock.slot + 192 →
    r.start ≤ r.stop → r.capacity.up ≤ 5000000 → r.capacity.down ≤ 5000000 →
    (10 ≤ r.capacity.up ∨ 10 ≤ r.capacity.down) →
    (snapshot.product = .trig → r.capacity.down < 10) → awardSnapshot s.profile r = some snapshot →
    s.book.records.length < 64 → s.book.nextSeq = some seq →
    (∀ row ∈ s.plan.all, ∀ slot ∈ row.slot, r.start ≤ slot → slot ≤ r.stop →
      ∀ side, 10 ≤ r.capacity.get side →
        row.committed.get side + r.capacity.get side / 10 * 10
          ≤ row.power.get side * s.profile.nat .margin / 4096 ∧
        row.required.get side
          + (energyRequirement ⟨r.capacity.up / 10 * 10, r.capacity.down / 10 * 10⟩ snapshot).get side
          ≤ row.energy.get side * s.profile.nat .margin / 4096) →
    ∃ (id k : Nat) (c : Commitment) (before after : List Commitment),
      s.book.records = before ++ after ∧
      (∀ d ∈ before, d.start < c.start ∨ (d.start = c.start ∧ d.seq < c.seq)) ∧
      (∀ d ∈ after, c.start < d.start ∨ (c.start = d.start ∧ c.seq < d.seq)) ∧
      1 ≤ id ∧ id ≤ 65535 ∧ (∀ d ∈ s.book.records, d.id ≠ id) ∧
      id = (s.book.lastId + k) % 65535 + 1 ∧
      (∀ j < k, ∃ d ∈ s.book.records, d.id = (s.book.lastId + j) % 65535 + 1) ∧
      c = ⟨id, r.marketRef, seq, r.start, r.stop, snapshot,
        ⟨r.capacity.up / 10 * 10, r.capacity.down / 10 * 10⟩,
        energyRequirement ⟨r.capacity.up / 10 * 10, r.capacity.down / 10 * 10⟩ snapshot,
        .pending, .clear⟩ ∧
      exec (.award .market tag body) s =
        .next ((State.post { s with
            book := ⟨before ++ c :: after,
              if seq = 4294967295 then none else some (seq + 1), id⟩
            plan := s.plan.mapRows (PlanRow.commit c) } .book).doneWith
          .award .market tag ([1#8, 0#8] ++ be 2 id ++ [0#8, 0#8, 0#8, 0#8, 0#8])))

/-- AWARD as a batch and the checks of R9: a batch of no record or of more than eight is refused
BAD_FIELD; otherwise the records are taken one after another, each on the state the ones before it left,
with one entry each in the reply (R8). In a batch of one the first check that fails gives the reason in
the entry, and nothing else of the part changes (R9, R51). -/
def Obligations.AwardChecksRefuseInOrder : Prop :=
  (∀ (s : State) (tag : Byte) (body : List Byte), Serves s .award .market body →
    ((field body 0 1 < 1 ∨ 8 < field body 0 1) →
      exec (.award .market tag body) s = .next (s.refusedWith .award .market tag .badField)) ∧
    ∀ taken : State × List AwardResult, 1 ≤ field body 0 1 → field body 0 1 ≤ 8 →
      taken = (awardRecords body).foldl (fun (q : State × List AwardResult) (r : AwardRecord) =>
        ((q.1.takeAward r).1, q.2 ++ [(q.1.takeAward r).2])) (s, []) →
      (awardRecords body).length = field body 0 1 ∧ taken.2.length = field body 0 1 ∧
      exec (.award .market tag body) s = .next (taken.1.doneWith .award .market tag
        (be 1 (field body 0 1) ++ taken.2.flatMap AwardResult.bytes))) ∧
  (∀ (s : State) (tag : Byte) (body : List Byte) (r : AwardRecord), Serves s .award .market body →
    field body 0 1 = 1 → awardRecords body = [r] →
    ∃ refusal : Reason → Host.Outcome State Fault Refusal,
      (∀ reason, refusal reason = .next (s.doneWith .award .market tag
        ([1#8, reason.code] ++ [0#8, 0#8, 0#8, 0#8, 0#8, 0#8, 0#8]))) ∧
      (s.clock.set = false → exec (.award .market tag body) s = refusal .noTime) ∧
      (s.clock.set = true → r.start ≤ s.clock.slot →
        exec (.award .market tag body) s = refusal .tooLate) ∧
      (s.clock.set = true → s.clock.slot < r.start → s.clock.slot + 192 < r.stop →
        exec (.award .market tag body) s = refusal .beyondHorizon) ∧
      (s.clock.set = true → s.clock.slot < r.start → r.stop ≤ s.clock.slot + 192 →
        (r.stop < r.start ∨ 5000000 < r.capacity.up ∨ 5000000 < r.capacity.down ∨
          (r.capacity.up < 10 ∧ r.capacity.down < 10) ∨ (r.product = 2 ∧ 10 ≤ r.capacity.down) ∨
          awardSnapshot s.profile r = none) →
        exec (.award .market tag body) s = refusal .badField) ∧
      (s.clock.set = true → s.clock.slot < r.start → r.stop ≤ s.clock.slot + 192 →
        r.start ≤ r.stop → r.capacity.up ≤ 5000000 → r.capacity.down ≤ 5000000 →
        (10 ≤ r.capacity.up ∨ 10 ≤ r.capacity.down) → (r.product = 2 → r.capacity.down < 10) →
        awardSnapshot s.profile r ≠ none →
        (64 ≤ s.book.records.length ∨ s.book.nextSeq = none) →
        exec (.award .market tag body) s = refusal .full) ∧
      (∀ snapshot n k, s.clock.set = true → s.clock.slot < r.start → r.stop ≤ s.clock.slot + 192 →
        r.start ≤ r.stop → r.capacity.up ≤ 5000000 → r.capacity.down ≤ 5000000 →
        (10 ≤ r.capacity.up ∨ 10 ≤ r.capacity.down) → (r.product = 2 → r.capacity.down < 10) →
        awardSnapshot s.profile r = some snapshot → s.book.records.length < 64 →
        s.book.nextSeq ≠ none → BookSound s → r.start ≤ n → n ≤ r.stop →
        (∀ side row, row ∈ s.plan.all → ∀ slot ∈ row.slot,
          (r.start ≤ slot ∧ slot < n) ∨ (slot = n ∧ side = .up ∧ k = .down) →
          10 ≤ r.capacity.get side →
          row.committed.get side + r.capacity.get side / 10 * 10
              ≤ row.power.get side * s.profile.nat .margin / 4096 ∧
            row.required.get side + (energyRequirement
                ⟨r.capacity.up / 10 * 10, r.capacity.down / 10 * 10⟩ snapshot).get side
              ≤ row.energy.get side * s.profile.nat .margin / 4096) →
        (∃ row ∈ s.plan.all, row.slot = some n ∧ 10 ≤ r.capacity.get k ∧
          (row.power.get k * s.profile.nat .margin / 4096
              < row.committed.get k + r.capacity.get k / 10 * 10 ∨
            row.energy.get k * s.profile.nat .margin / 4096
              < row.required.get k + (energyRequirement
                ⟨r.capacity.up / 10 * 10, r.capacity.down / 10 * 10⟩ snapshot).get k)) →
        exec (.award .market tag body) s = .next (s.doneWith .award .market tag
          ([1#8, 0x10#8, 0#8, 0#8] ++ be 4 n ++ [if k = .up then 1#8 else 2#8]))))

/-- The law of R52: when a record is admitted, the committed sums with it included fit the margin-scaled
figures of every slot it covers, on each side it sells. -/
def Obligations.AdmissionStaysWithinTheMargin : Prop :=
  ∀ (s t : State) (r : AwardRecord) (id : Nat), BookSound s → s.takeAward r = (t, .admitted id) →
    ∀ row ∈ t.plan.all, ∀ slot ∈ row.slot, r.start ≤ slot → slot ≤ r.stop →
      ∀ side, 10 ≤ r.capacity.get side →
        row.committed.get side ≤ row.power.get side * s.profile.nat .margin / 4096 ∧
        row.required.get side ≤ row.energy.get side * s.profile.nat .margin / 4096

/-- WITHDRAW takes a PENDING record out of the book and RELEASE one that has started; each refuses the
other's WRONG_STATE and an absent id NOT_FOUND (R14, R15, R47, R55). -/
def Obligations.WithdrawAndReleaseRemove : Prop :=
  ∀ (s : State) (tag : Byte) (id : BitVec 16) (withdraw : Bool) (kind : RequestKind) (port : Port),
    kind = (if withdraw then .withdraw else .release) →
    port = (if withdraw then .market else .operator) → Serves s kind port (be 2 id.toNat) →
    (s.book.find id.toNat = none →
      exec (kind.command port tag (be 2 id.toNat)) s =
        .next (s.refusedWith kind port tag .notFound)) ∧
    (∀ c, s.book.find id.toNat = some c → c.isPending ≠ withdraw →
      exec (kind.command port tag (be 2 id.toNat)) s =
        .next (s.refusedWith kind port tag .wrongState)) ∧
    (∀ c, s.book.find id.toNat = some c → c.isPending = withdraw →
      exec (kind.command port tag (be 2 id.toNat)) s =
        .next ((State.post { s with
            book := { s.book with records := s.book.records.filter fun d => d.id != id.toNat }
            plan := s.plan.mapRows fun row =>
              if c.coversRow row then
                { row with
                  committed := ⟨row.committed.up - c.capacity.up,
                    row.committed.down - c.capacity.down⟩
                  required := ⟨row.required.up - c.requirement.up,
                    row.required.down - c.requirement.down⟩ }
              else row
            marked := s.marked.filter fun i => i != id.toNat } .book).doneWith kind port tag []))

/-- Keys compare on the start slot first and then on the acceptance sequence (1.2). The walks of the book and
of the log: OPEN; NEXT on a closed cursor; and on an open one the record with
the least key above the last key, or END (R17, R18, R150). -/
def Obligations.WalksFollowTheirKeys : Prop :=
  (∀ c d : Commitment, c.key = (c.start, c.seq) ∧
    (keyLess c.key d.key = true ↔ c.start < d.start ∨ (c.start = d.start ∧ c.seq < d.seq)) ∧
    ∀ k : Nat × Nat, (keyLess k d.key = true ↔ k.1 < d.start ∨ (k.1 = d.start ∧ k.2 < d.seq))) ∧
  ((∀ (s : State) (port : Port) (tag : Byte), Serves s .bookOpen port [] →
    exec (.bookOpen port tag []) s =
      .next ((s.setPort port { s.port port with bookCursor := .opened none }).doneWith
        .bookOpen port tag (be 1 s.book.records.length))) ∧
  (∀ (s : State) (port : Port) (tag : Byte), Serves s .bookNext port [] →
    ((s.port port).bookCursor = .closed →
      exec (.bookNext port tag []) s = .next (s.refusedWith .bookNext port tag .notOpen)) ∧
    (∀ last, (s.port port).bookCursor = .opened last →
      (∀ c ∈ s.book.records, ∃ k, last = some k ∧ keyLess k c.key = false) →
      exec (.bookNext port tag []) s = .next (s.doneWith .bookNext port tag [1#8])) ∧
    (∀ last, (s.port port).bookCursor = .opened last → BookSound s →
      ∀ c ∈ s.book.records, (∀ k, last = some k → keyLess k c.key = true) →
      (∀ d ∈ s.book.records, (∀ k, last = some k → keyLess k d.key = true) →
        d = c ∨ keyLess c.key d.key = true) →
      exec (.bookNext port tag []) s =
        .next ((s.setPort port { s.port port with bookCursor := .opened (some c.key) }).doneWith
          .bookNext port tag (0#8 :: c.bytes))))) ∧
  ((∀ (s : State) (port : Port) (tag : Byte), Serves s .logOpen port [] →
    exec (.logOpen port tag []) s =
      .next ((s.setPort port { s.port port with logCursor := .opened none }).doneWith .logOpen port tag
        (be 1 s.delivery.log.length
          ++ be 4 ((s.delivery.log.head?.map EpisodeRecord.number).getD 0)
          ++ be 4 ((s.delivery.log.getLast?.map EpisodeRecord.number).getD 0)))) ∧
  (∀ (s : State) (port : Port) (tag : Byte), Serves s .logNext port [] →
    ((s.port port).logCursor = .closed →
      exec (.logNext port tag []) s = .next (s.refusedWith .logNext port tag .notOpen)) ∧
    (∀ last, (s.port port).logCursor = .opened last →
      (∀ r ∈ s.delivery.log, ∃ n, last = some n ∧ r.number ≤ n) →
      exec (.logNext port tag []) s = .next (s.doneWith .logNext port tag [1#8])) ∧
    (∀ last, (s.port port).logCursor = .opened last → DeliverySound s →
      ∀ r ∈ s.delivery.log, (∀ n, last = some n → n < r.number) →
      (∀ q ∈ s.delivery.log, (∀ n, last = some n → n < q.number) → r.number ≤ q.number) →
      exec (.logNext port tag []) s =
        .next ((s.setPort port { s.port port with logCursor := .opened (some r.number) }).doneWith
          .logNext port tag (0#8 :: r.bytes)))))

/-- The law of the book and the planning array, kept by every step (R5, R6, R11, R12, R45, R47, R55). -/
def Obligations.EveryStepKeepsTheBook : Prop :=
  ∀ s t : State, BookSound s → step s = .next t → BookSound t

/-! ### The Fleet Table -/

/-- ENROL: each of its refusals, and the record it creates (R23). -/
def Obligations.EnrolCreatesTheRecord : Prop :=
  ∀ (s : State) (tag : Byte) (body : List Byte), Serves s .enrol .market body →
    ∃ (a mode up down g : Nat) (carried : Bool),
      a = field body 0 1 ∧ mode = field body 1 1 ∧ carried = (field body 2 1).testBit 0 ∧
      up = field body 3 4 ∧ down = field body 7 4 ∧
      g = (if (field body 2 1).testBit 1 then field body 11 2 else 4096) ∧
      ((a < 1 ∨ 240 < a ∨ 2 < mode ∨ (mode = 2 ∧ carried = false) ∨
        (carried = true ∧ (655350 < up ∨ 655350 < down)) ∨ 4096 < g) →
        exec (.enrol .market tag body) s = .next (s.refusedWith .enrol .market tag .badField)) ∧
      (1 ≤ a → a ≤ 240 → mode ≤ 2 → (mode = 2 → carried = true) →
        (carried = true → up ≤ 655350 ∧ down ≤ 655350) → g ≤ 4096 →
        ((Fleet.get s.fleet a).isSome = true →
          exec (.enrol .market tag body) s = .next (s.refusedWith .enrol .market tag .inUse)) ∧
        (Fleet.get s.fleet a = none →
          ∃ u : UnitRecord,
            u = ⟨.joining, 0,
              .plain (if mode = 0 then .off else if mode = 1 then .auto
                else .manual ⟨up / 10 * 10, down / 10 * 10⟩),
              g, ⟨false, false, false⟩, none, [], ⟨0, 0⟩, 0, 0, 0, none, none⟩ ∧
            exec (.enrol .market tag body) s =
              .next ((State.post { s with fleet := Fleet.put s.fleet a u } .unit).doneWith
                .enrol .market tag (u.bytes s.time a))))

/-- RETIRE: its refusals; the entry becomes VACANT, a running test of the unit posts TEST, UNIT is
posted, and a visit to the address in SENDING or AWAITING is marked (R24, R37, R134). -/
def Obligations.RetireVacatesTheEntry : Prop :=
  ∀ (s : State) (tag a : Byte), Serves s .retire .market [a] →
    ((a.toNat < 1 ∨ 240 < a.toNat) →
      exec (.retire .market tag [a]) s = .next (s.refusedWith .retire .market tag .badField)) ∧
    (1 ≤ a.toNat → a.toNat ≤ 240 → Fleet.get s.fleet a.toNat = none →
      exec (.retire .market tag [a]) s = .next (s.refusedWith .retire .market tag .notFound)) ∧
    (∀ u, 1 ≤ a.toNat → a.toNat ≤ 240 → Fleet.get s.fleet a.toNat = some u →
      ∃ l : Link,
        l = { s.link with visit := l.visit } ∧
        (∀ v ∈ s.link.visit, l.visit = some { v with removed := v.removed ||
          (v.address == a.toNat && (s.link.phase == .sending ||
            match s.link.phase with
            | .awaiting _ => true
            | _ => false)) }) ∧
        (s.link.visit = none → l.visit = none) ∧
        exec (.retire .market tag [a]) s =
          .next ((State.post (State.postIf { s with
              fleet := s.fleet.filter fun e => e.1 != a.toNat, link := l } u.inTest .test) .unit).doneWith
            .retire .market tag []))

/-- UNIT-MODE: its refusals in their order, and the record it leaves (R25). -/
def Obligations.UnitModeChangesTheMode : Prop :=
  ∀ (s : State) (tag : Byte) (body : List Byte), Serves s .unitMode .market body →
    ∃ (a mode up down : Nat) (carried clear : Bool),
      a = field body 0 1 ∧ mode = field body 1 1 ∧ carried = (field body 2 1).testBit 0 ∧
      clear = (field body 2 1).testBit 1 ∧ up = field body 3 4 ∧ down = field body 7 4 ∧
      ((a < 1 ∨ 240 < a ∨ 2 < mode ∨ (mode = 2 ∧ carried = false) ∨
        (carried = true ∧ (655350 < up ∨ 655350 < down))) →
        exec (.unitMode .market tag body) s = .next (s.refusedWith .unitMode .market tag .badField)) ∧
      (1 ≤ a → a ≤ 240 → mode ≤ 2 → (mode = 2 → carried = true) →
        (carried = true → up ≤ 655350 ∧ down ≤ 655350) →
        (Fleet.get s.fleet a = none →
          exec (.unitMode .market tag body) s =
            .next (s.refusedWith .unitMode .market tag .notFound)) ∧
        (∀ u t, Fleet.get s.fleet a = some u → u.mode = .test t →
          exec (.unitMode .market tag body) s =
            .next (s.refusedWith .unitMode .market tag .wrongState)) ∧
        (∀ u m, Fleet.get s.fleet a = some u → u.mode = .plain m →
          ∃ v : UnitRecord,
            v = { u with
              mode := .plain (if mode = 0 then .off else if mode = 1 then .auto
                else .manual ⟨up / 10 * 10, down / 10 * 10⟩)
              bars := { u.bars with lowResponse := u.bars.lowResponse && !clear }
              setpoint := if mode = 0 then 0 else u.setpoint
              participation := if mode = 0 then 0 else u.participation
              restoration := if mode = 0 then 0 else u.restoration } ∧
            exec (.unitMode .market tag body) s =
              .next ((State.postIf { s with fleet := Fleet.put s.fleet a v }
                (u.bars.lowResponse && clear) .unit).doneWith .unitMode .market tag
                ([BitVec.ofNat 8 mode, if mode = 2 then 1#8 else 0#8]
                  ++ be 4 (if mode = 2 then up / 10 * 10 else 0)
                  ++ be 4 (if mode = 2 then down / 10 * 10 else 0) ++ be 1 v.bars.code))))

/-- UNIT-TEST starts a test on an eligible unit that passes every check, and refuses each other case in
its order (R34). The test timer's expiry completes the running test: g from the mean response,
LOW_RESPONSE against g_min, the prior mode back, TEST posted, and UNIT where the bars change (R36). -/
def Obligations.TestsStartAndComplete : Prop :=
  (∀ (s : State) (tag a : Byte), Serves s .unitTest .market [a] →
    ((a.toNat < 1 ∨ 240 < a.toNat) → exec (.unitTest .market tag [a]) s =
      .next (s.refusedWith .unitTest .market tag .badField)) ∧
    (1 ≤ a.toNat → a.toNat ≤ 240 → Fleet.get s.fleet a.toNat = none →
      exec (.unitTest .market tag [a]) s =
        .next (s.refusedWith .unitTest .market tag .notFound))) ∧
  (∀ (s : State) (tag a : Byte) (u : UnitRecord), Serves s .unitTest .market [a] → 1 ≤ a.toNat →
    a.toNat ≤ 240 → Fleet.get s.fleet a.toNat = some u →
    ((∃ e ∈ s.fleet, e.2.inTest = true) →
      exec (.unitTest .market tag [a]) s =
        .next (s.refusedWith .unitTest .market tag .testRunning)) ∧
    ((∀ e ∈ s.fleet, e.2.inTest = false) →
      (u.eligible = false ∨ s.delivery.episode.isSome = true ∨
        ∀ r, u.report = some r → r.maxDischarge * s.profile.nat .testFraction / 100 < 10) →
      exec (.unitTest .market tag [a]) s =
        .next (s.refusedWith .unitTest .market tag .wrongState)) ∧
    (∀ r m, (∀ e ∈ s.fleet, e.2.inTest = false) → u.link = .live →
      u.bars = ⟨false, false, false⟩ → u.mode = .plain m → m ≠ .off → s.delivery.episode = none →
      u.report = some r → 10 ≤ r.maxDischarge * s.profile.nat .testFraction / 100 →
      exec (.unitTest .market tag [a]) s =
        .next ({ s with fleet := Fleet.put s.fleet a.toNat { u with
            mode := .test ⟨s.time, m, r.power,
              r.maxDischarge * s.profile.nat .testFraction / 100 / 10 * 10,
              s.profile.nat .testDuration, 0, 0⟩ } }.doneWith .unitTest .market tag
          (be 4 (r.maxDischarge * s.profile.nat .testFraction / 100 / 10 * 10)
            ++ be 1 (s.profile.nat .testDuration))))) ∧
  (∀ (s : State) (a : Nat) (u : UnitRecord) (t : TestRecord), s.running = true → FleetSound s →
    Fleet.get s.fleet a = some u → u.mode = .test t →
    ∃ (g : Nat) (low : Bool),
      g ≤ 4096 ∧
      (t.count = 0 → g = 0) ∧
      (0 < t.count → t.accumulator < 0 → g = 0) ∧
      (0 < t.count → 0 ≤ t.accumulator →
        g = min 4096 (t.accumulator.toNat / t.count * 4096 / t.power)) ∧
      low = decide (g < s.profile.nat .gMin) ∧
      exec .testTimerExpiry s =
        .next (State.postIf (State.post { s with fleet := Fleet.put s.fleet a { u with
            g := g
            bars := { u.bars with lowResponse := low }
            mode := .plain t.prior
            lastTest := some (if low then .low g else .passed g) } } .test)
          (low != u.bars.lowResponse) .unit))

/-- The law of the Fleet Table, kept by every step: R119's setpoint law, at most one test, and the bounds
of Table 2-1. -/
def Obligations.EveryStepKeepsTheFleet : Prop :=
  ∀ s t : State, FleetSound s → step s = .next t → FleetSound t

/-! ### Headroom and risk -/

/-- Live headroom (R39 to R41), written out: 0 without eligibility (R22) or under a WITHDRAW hold of the
current slot; otherwise, side by side, what the energy above the floor or below the ceiling sustains for
the dispatch endurance, within the reported limit, scaled by g and floored to 10 W. So it is a multiple of
10 within the limit, and no more than the energy sustains. E_live's share of a unit (R42), its planning
power and energy in the row of a slot, and a row's fleet part as their sums (R46), are written out
likewise. -/
def Obligations.LiveHeadroomIsSustainable : Prop :=
  (∀ (p : Profile) (slot : Option Nat) (u : UnitRecord),
    ((u.eligible = false ∨ ∃ h ∈ u.holds, h.kind = .withdraw ∧ h.covers slot = true) →
      liveHeadroom p slot u = ⟨0, 0⟩ ∧ liveEnergy p slot u = ⟨0, 0⟩) ∧
    (∀ r, u.report = some r → u.g ≤ 4096 → 0 < p.nat .dispatchEndurance →
      (liveHeadroom p slot u).up % 10 = 0 ∧ (liveHeadroom p slot u).down % 10 = 0 ∧
      (liveHeadroom p slot u).up ≤ r.maxDischarge ∧ (liveHeadroom p slot u).down ≤ r.maxCharge ∧
      (liveHeadroom p slot u).up * p.nat .dispatchEndurance ≤ (r.soc - r.floor) * 60 ∧
      (liveHeadroom p slot u).up * p.nat .dispatchEndurance ≤
        (r.soc - r.capacity * p.nat .technicalFloor / 100) * 60 ∧
      (∀ h ∈ u.holds, ∀ e, h.kind = .floor e → h.covers slot = true →
        (liveHeadroom p slot u).up * p.nat .dispatchEndurance ≤ (r.soc - e) * 60) ∧
      (liveHeadroom p slot u).down * p.nat .dispatchEndurance ≤
        (r.capacity * (100 - p.nat .ceilingMargin) / 100 - r.soc) * 60)) ∧
  (∀ u : UnitRecord, u.eligible = true ↔
    u.link = .live ∧ u.bars = ⟨false, false, false⟩ ∧ ∃ m, u.mode = .plain m ∧ m ≠ .off) ∧
  (∀ (h : Hold) (slot : Option Nat),
    h.covers slot = true ↔ ∃ n, slot = some n ∧ h.start ≤ n ∧ n ≤ h.stop) ∧
  (∀ (p : Profile) (slot : Option Nat) (u : UnitRecord) (r : Report) (floor ceiling target : Nat),
    u.report = some r →
    (∀ x, floor ≤ x ↔ r.floor ≤ x ∧ r.capacity * p.nat .technicalFloor / 100 ≤ x ∧
      ∀ h ∈ u.holds, ∀ e, h.kind = .floor e → h.covers slot = true → e ≤ x) →
    ceiling = r.capacity * (100 - p.nat .ceilingMargin) / 100 →
    target = r.capacity * p.nat .restorationTarget / 100 →
    (∀ h ∈ u.holds, h.kind = .withdraw → h.covers slot = false) →
    (u.eligible = true →
      liveHeadroom p slot u =
        ⟨min r.maxDischarge ((r.soc - floor) * 60 / p.nat .dispatchEndurance) * u.g / 4096 / 10 * 10,
          min r.maxCharge ((ceiling - r.soc) * 60 / p.nat .dispatchEndurance) * u.g / 4096 / 10 * 10⟩ ∧
      liveEnergy p slot u = ⟨(r.soc - floor) * u.g / 4096, (ceiling - r.soc) * u.g / 4096⟩) ∧
    ∀ n, slot = some n → u.link = .live → u.bars = ⟨false, false, false⟩ → u.mode ≠ .plain .off →
      planEnergy p n u = ⟨(target - floor) * u.g / 4096, (ceiling - target) * u.g / 4096⟩ ∧
      ∀ m, (u.mode = .plain m ∨ ∃ t, u.mode = .test t ∧ t.prior = m) →
        planPower n u =
          match m with
          | .manual d => ⟨min (r.maxDischarge * u.g / 4096 / 10 * 10) d.up,
              min (r.maxCharge * u.g / 4096 / 10 * 10) d.down⟩
          | _ => ⟨r.maxDischarge * u.g / 4096 / 10 * 10, r.maxCharge * u.g / 4096 / 10 * 10⟩) ∧
  (∀ (p : Profile) (n : Nat) (u : UnitRecord),
    (u.link ≠ .live ∨ u.bars ≠ ⟨false, false, false⟩ ∨ u.mode = .plain .off ∨
      ∃ h ∈ u.holds, h.kind = .withdraw ∧ h.covers (some n) = true) →
    planPower n u = ⟨0, 0⟩ ∧ planEnergy p n u = ⟨0, 0⟩) ∧
  (∀ (p : Profile) (f : Fleet) (r : PlanRow),
    (r.slot = none → r.refresh p f = r) ∧
    ∀ n, r.slot = some n → r.refresh p f = { r with
      power := ⟨(f.map fun e => (planPower n e.2).up).sum, (f.map fun e => (planPower n e.2).down).sum⟩
      energy := ⟨(f.map fun e => (planEnergy p n e.2).up).sum,
        (f.map fun e => (planEnergy p n e.2).down).sum⟩ })

/-- The LIVE check of a side and the PLANNING check of a row and side mark the latest-accepted candidates
first and no more than they must: what is marked is closed under later acceptance, what is left fits or
nothing is left, a side that fits marks nothing, and each marked candidate was needed, for without it and
the candidates accepted before it the side did not fit. LIVE weighs the records in force or in overrun
against the live figures with no margin (R53), PLANNING the pending records that cover the row against the
row's figures scaled by the margin (R54). -/
def Obligations.LatestAcceptedAreMarkedFirst : Prop :=
  ∀ (records : List Commitment) (side : Side),
    (records.map Commitment.id).Nodup → (records.map Commitment.seq).Nodup →
    (∀ a : Availability,
      MarksLatestUntilFit side (a.power.get side, a.energy.get side)
        (a.forceCapacity.get side, a.forceRequirement.get side)
        (records.filter fun c => !c.isPending && decide (0 < c.capacity.get side))
        (liveCheck a records side)) ∧
    ∀ (m : Nat) (row : PlanRow),
      MarksLatestUntilFit side (row.power.get side * m / 4096, row.energy.get side * m / 4096)
        (row.committed.get side, row.required.get side)
        (records.filter fun c => c.isPending && decide (0 < c.capacity.get side)
          && row.slot.any fun n => decide (c.start ≤ n ∧ n ≤ c.stop))
        (planningCheck m records row side)

/-- A round's completion, at the round timer in PACING or at the end of the last QUIET after it: counter and
start index advance and the next round begins, its first visit at once or none (R127, R128); every unit's
live headroom is written (R43); the availability record is formed whole (R42); a SET clock recomputes the
fleet part of every row (R48); the book's records change in their marks alone, marked as the checks of R53
and R54 say, and the marked set with them (R55); RISK is posted exactly when the marked ids differ (R56);
the delivered sum is formed afresh (R142). A round timer that expires during the walk is only marked
expired (R127). That an empty round holds no visit, and that no event comes between the evaluation and the
delivered sum, are the model's choices (log entries 14 and 27). -/
def Obligations.RoundCompletionEvaluates : Prop :=
  ∀ s : State, s.running = true →
    (∀ c : Instr,
      (c = .roundTimerExpiry ∧ s.link.roundTimer.isSome = true ∧ s.link.phase = .pacing) ∨
        (c = .quietEnd ∧ s.link.roundTimer = none ∧
          (∃ wait bound, s.link.phase = .quiet wait bound) ∧
          s.link.ahead.find? (fun b => (Fleet.get s.fleet b).any fun w =>
            w.link != .lost || s.link.round % 10 == 0) = none) →
      ∃ (t : State) (now : Option Nat) (held : List Commitment) (live planning : List Nat)
        (round start : Nat),
        exec c s = .next t ∧
        t = { s with
          link := t.link, fleet := t.fleet, avail := t.avail, plan := t.plan, book := t.book
          marked := t.marked, delivery := t.delivery, market := t.market, operator := t.operator } ∧
        now = s.plan.rows.head?.bind PlanRow.slot ∧
        t.fleet = s.fleet.map (fun e => (e.1, { e.2 with live := liveHeadroom s.profile now e.2 })) ∧
        held = s.book.records.filter (fun c => !c.isPending) ∧
        t.avail =
          { stamp := if s.clock.set then some (s.clock.slot, s.clock.second) else none
            eligible := (s.fleet.filter fun e => e.2.eligible &&
              e.2.holds.all fun h => h.kind != .withdraw || !h.covers now).length
            power := ⟨(t.fleet.map fun e => e.2.live.up).sum, (t.fleet.map fun e => e.2.live.down).sum⟩
            energy := ⟨(s.fleet.map fun e => (liveEnergy s.profile now e.2).up).sum,
              (s.fleet.map fun e => (liveEnergy s.profile now e.2).down).sum⟩
            forceCount := held.length
            forceCapacity := ⟨(held.map fun c => c.capacity.up).sum,
              (held.map fun c => c.capacity.down).sum⟩
            forceRequirement := ⟨(held.map fun c => c.requirement.up).sum,
              (held.map fun c => c.requirement.down).sum⟩
            liveMarked := (t.book.records.filter fun c => c.mark == .live).length
            liveMarkedCapacity :=
              ⟨((t.book.records.filter fun c => c.mark == .live).map fun c => c.capacity.up).sum,
                ((t.book.records.filter fun c => c.mark == .live).map fun c => c.capacity.down).sum⟩
            planningMarked := (t.book.records.filter fun c => c.mark == .planning).length } ∧
        t.plan = (if s.clock.set then ⟨s.plan.rows.map (PlanRow.refresh s.profile s.fleet),
          s.plan.horizon.map (PlanRow.refresh s.profile s.fleet)⟩ else s.plan) ∧
        live = liveCheck t.avail s.book.records .up ++ liveCheck t.avail s.book.records .down ∧
        planning = (if s.clock.set then t.plan.all.flatMap fun r =>
            planningCheck (s.profile.nat .margin) s.book.records r .up
              ++ planningCheck (s.profile.nat .margin) s.book.records r .down
          else []) ∧
        t.book = { s.book with records := s.book.records.map fun c =>
          { c with
            mark :=
              if c.isPending then if planning.contains c.id then .planning else .clear
              else if live.contains c.id then .live else .clear } } ∧
        t.marked = (t.book.records.filter fun c => c.mark != .clear).map Commitment.id ∧
        ((∀ i, i ∈ t.marked ↔ i ∈ s.marked) → t.market = s.market ∧ t.operator = s.operator) ∧
        ((∃ i, ¬(i ∈ t.marked ↔ i ∈ s.marked)) →
          t.market = (s.post .risk).market ∧ t.operator = (s.post .risk).operator) ∧
        (∀ e, s.delivery.episode = some e → t.delivery = { s.delivery with episode := some { e with
          delivered := (t.fleet.map fun x => x.2.contribution).sum } }) ∧
        (s.delivery.episode = none → t.delivery = s.delivery) ∧
        (∀ u : UnitRecord, u.contribution = match u.baseline, u.report with
          | some b, some r => r.power - b - u.restoration
          | _, _ => 0) ∧
        round = (if s.link.round < 4294967295 then s.link.round + 1 else 0) ∧
        start = (if s.link.startIndex < 240 then s.link.startIndex + 1 else 1) ∧
        (∀ a u, (walkOrder start).find? (fun b => (Fleet.get s.fleet b).any fun w =>
            w.link != .lost || round % 10 == 0) = some a → Fleet.get s.fleet a = some u →
          t.link =
            { startIndex := start, round := round, position := some a, phase := .sending, fbde := true
              roundTimer := some ⟨s.time, 2000000⟩
              visit := some ⟨a, ⟨a, if u.link = .live then u.setpoint.tdiv 10 else 0,
                decide (u.participation ≠ 0), decide (u.restoration ≠ 0), u.inTest,
                s.delivery.episode.isSome⟩, s.profile.nat .replyTimeout, false, []⟩ }) ∧
        ((walkOrder start).find? (fun b => (Fleet.get s.fleet b).any fun w =>
            w.link != .lost || round % 10 == 0) = none →
          t.link =
            { startIndex := start, round := round, position := none, phase := .pacing, fbde := false
              roundTimer := some ⟨s.time, 2000000⟩, visit := none })) ∧
    (s.link.roundTimer.isSome = true → s.link.phase ≠ .pacing →
      exec .roundTimerExpiry s = .next { s with link := { s.link with roundTimer := none } })

/-! ### Frequency and feeder measurement -/

/-- An edge at LREF (R61 to R64, R66 to R68, R70, R84): not captured in RELAYED; with no previous capture it
sets the measuring point; a valid period joins the window, makes an ACQUIRING meter VALID at the fifth and
an INVALID one ACQUIRING, and gives a measurement in VALID, handed to the commitments; an invalid one
counts, and the third makes the meter INVALID, which hands a meter that leaves VALID's Left VALID event to
the book; FREQ is posted exactly on a change of state. That the capture counter takes the capture the edge
carries is the model's choice (log entry 4). -/
def Obligations.EdgesFormPeriods : Prop :=
  ∀ (s : State) (capture : Capture), s.running = true →
    (s.straps.fsrcHigh = true → exec (.lrefEdge capture) s = .next s) ∧
    (s.straps.fsrcHigh = false → s.meter.previous = none →
      exec (.lrefEdge capture) s =
        if s.meter.state = .lost then
          .next (State.post { s with meter := { s.meter with
            counter := capture, previous := some capture, lossCompare := some capture
            state := .acquiring, window := [], badRun := 0 } } .freq)
        else .next { s with meter := { s.meter with
            counter := capture, previous := some capture, lossCompare := some capture } }) ∧
    (∀ previous, s.straps.fsrcHigh = false → s.meter.previous = some previous →
      s.meter.state ≠ .lost →
      ∃ (t : State) (period run : Nat) (window : List Nat) (valid : Prop),
        period = (capture - previous).toNat ∧
        (valid ↔ if s.straps.nomfHigh then 153846 ≤ period ∧ period ≤ 181818
          else 181818 ≤ period ∧ period ≤ 222222) ∧
        run = min 255 (s.meter.badRun + 1) ∧
        window = (if s.meter.window.length < 5 then s.meter.window else s.meter.window.tail)
          ++ [period] ∧
        exec (.lrefEdge capture) s = .next t ∧
        t = { s with meter := t.meter, book := t.book, market := t.market, operator := t.operator } ∧
        t.meter = { s.meter with
          counter := capture, previous := some capture, lossCompare := some capture
          badRun := t.meter.badRun, window := t.meter.window, state := t.meter.state
          latest := t.meter.latest } ∧
        (valid → t.meter.badRun = 0 ∧ t.meter.window = window ∧
          t.meter.state = (if s.meter.state = .valid ∨ (s.meter.state = .acquiring ∧ window.length = 5)
            then .valid else .acquiring) ∧
          t.meter.latest = (if s.meter.state = .valid ∨ (s.meter.state = .acquiring ∧ window.length = 5)
            then some ((10 ^ 11 + window.sum) / (2 * window.sum)) else s.meter.latest) ∧
          t.book = (if s.meter.state = .valid ∨ (s.meter.state = .acquiring ∧ window.length = 5)
            then { s.book with
              records := s.book.records.map (Commitment.takeMeasurement s.time s.nominal
                ((10 ^ 11 + window.sum) / (2 * window.sum))) }
            else s.book)) ∧
        (¬valid → t.meter.badRun = run ∧
          (run < 3 ∨ s.meter.state = .invalid → t.meter.state = s.meter.state ∧
            t.meter.window = s.meter.window ∧ t.meter.latest = s.meter.latest) ∧
          (3 ≤ run → s.meter.state ≠ .invalid → t.meter.state = .invalid ∧ t.meter.window = [] ∧
            t.meter.latest = none) ∧
          t.book = (if s.meter.state = .valid ∧ 3 ≤ run then s.book.leftValid else s.book)) ∧
        (t.meter.state ≠ s.meter.state →
          (∀ port, hasNotice (t.port port).notices .freq = true) ∧
          t.market = (s.post .freq).market ∧ t.operator = (s.post .freq).operator) ∧
        (t.meter.state = s.meter.state → t.market = s.market ∧ t.operator = s.operator))

/-- The loss compare and the silence timer make the meter LOST, with the latest measurement and the run
gone and FREQ posted, the loss compare with the window and the previous capture gone too (R65, R72); a
meter that leaves VALID hands its Left VALID event to the book, and otherwise the book stands (R67, R84). A
LOST relayed meter whose timer expires posts nothing (R72); that it keeps all else, its run with it, is the
model's choice (log entry 13). -/
def Obligations.SilentInputsLoseTheMeter : Prop :=
  (∀ (s : State) (start : Capture), s.running = true → s.meter.lossCompare = some start →
    s.meter.state ≠ .lost →
    ∃ t, exec .lossCompareExpiry s = .next t ∧
      t = { s with meter := t.meter, book := t.book, market := t.market, operator := t.operator } ∧
      t.meter = { s.meter with
        state := .lost, window := [], latest := none, badRun := 0, previous := none
        lossCompare := none } ∧
      t.book = (if s.meter.state = .valid then s.book.leftValid else s.book) ∧
      t.market = (s.post .freq).market ∧ t.operator = (s.post .freq).operator ∧
      ∀ port, hasNotice (t.port port).notices .freq = true) ∧
  (∀ (s : State) (timer : Timer), s.running = true → s.meter.silence = some timer →
    (s.meter.state = .valid ∨ s.meter.state = .invalid) →
    ∃ t, exec .silenceTimerExpiry s = .next t ∧
      t = { s with meter := t.meter, book := t.book, market := t.market, operator := t.operator } ∧
      t.meter = { s.meter with state := .lost, latest := none, badRun := 0, silence := none } ∧
      t.book = (if s.meter.state = .valid then s.book.leftValid else s.book) ∧
      t.market = (s.post .freq).market ∧ t.operator = (s.post .freq).operator ∧
      ∀ port, hasNotice (t.port port).notices .freq = true) ∧
  (∀ (s : State) (timer : Timer), s.running = true → s.meter.silence = some timer →
    s.meter.state = .lost →
    exec .silenceTimerExpiry s = .next { s with meter := { s.meter with silence := none } })

/-- A relayed reading rearms the silence timer; in band it is the measurement, makes the meter VALID and is
handed to the commitments; out of band it counts, and the third makes a meter not yet INVALID INVALID, one
that leaves VALID handing its Left VALID event to the book; FREQ is posted on a change of state; the reply
tells the state and TAKEN or BAD (R67, R68, R70, R71, R84). -/
def Obligations.RelayedReadingsAreJudged : Prop :=
  ∀ (s : State) (tag : Byte) (body : List Byte), Serves s .freq .operator body →
    ∃ (f run : Nat) (inBand : Prop) (u : State), f = field body 0 4 ∧
      run = min 255 (s.meter.badRun + 1) ∧ (inBand ↔ s.nominal - 5000 ≤ f ∧ f ≤ s.nominal + 5000) ∧
      (inBand → exec (.freq .operator tag body) s =
        .next (u.doneWith .freq .operator tag [BitVec.ofNat 8 u.meter.state.code, 0#8])) ∧
      (¬inBand → exec (.freq .operator tag body) s =
        .next (u.doneWith .freq .operator tag [BitVec.ofNat 8 u.meter.state.code, 1#8])) ∧
      u = { s with meter := u.meter, book := u.book, market := u.market, operator := u.operator } ∧
      (∀ port, ∃ x, u.port port = x ∧
        x = { s.port port with notices := x.notices, line := x.line, owed := x.owed }) ∧
      u.meter = { s.meter with
        state := u.meter.state, latest := u.meter.latest, badRun := u.meter.badRun
        silence := some ⟨s.time, 10000000⟩ } ∧
      (inBand → u.meter.state = .valid ∧ u.meter.latest = some f ∧ u.meter.badRun = 0 ∧
        u.book = { s.book with
          records := s.book.records.map (Commitment.takeMeasurement s.time s.nominal f) }) ∧
      (¬inBand → u.meter.badRun = run ∧
        (run < 3 ∨ s.meter.state = .invalid →
          u.meter.state = s.meter.state ∧ u.meter.latest = s.meter.latest ∧ u.book = s.book) ∧
        (3 ≤ run → s.meter.state ≠ .invalid → u.meter.state = .invalid ∧ u.meter.latest = none ∧
          u.book = if s.meter.state = .valid then s.book.leftValid else s.book)) ∧
      (u.meter.state ≠ s.meter.state →
        (∀ port, hasNotice (u.port port).notices .freq = true) ∧
        u.market = (s.post .freq).market ∧ u.operator = (s.post .freq).operator) ∧
      (u.meter.state = s.meter.state → u.market = s.market ∧ u.operator = s.operator)

/-- The law of the meter, kept by every step: the latest measurement is present exactly in VALID, within
5 Hz of nominal, and the window is what each state allows (R63 to R67, R71). -/
def Obligations.EveryStepKeepsTheMeter : Prop :=
  ∀ s t : State, MeterSound s → step s = .next t → MeterSound t

/-- A conversion set takes the enables at its start and makes the other channels ABSENT; each completion
writes code, value and over-range of the next enabled channel together (R73 to R76). That a set's start
abandons the conversions of the previous set still outstanding is the model's choice (log entry 25). -/
def Obligations.ConversionsWriteTheChannels : Prop :=
  (∀ s : State, s.running = true →
    ∃ t, exec .conversionSetStart s = .next t ∧ t = { s with analog := t.analog } ∧
      t.analog.setTimer = some ⟨s.time, 200000⟩ ∧
      t.analog.converting = [Channel.ia, .ib, .ic, .pnet].filter (fun c =>
        (s.profile.nat .channelEnables).testBit c.bit) ∧
      ∀ c, t.analog.get c =
        if t.analog.converting.contains c then s.analog.get c else ⟨0, 0, false, false⟩) ∧
  (∀ (s : State) (code : Code) (c : Channel) (rest : List Channel), s.running = true →
    s.analog.converting = c :: rest →
    ∃ t, exec (.conversionComplete code) s = .next t ∧ t = { s with analog := t.analog } ∧
      t.analog.converting = rest ∧ t.analog.setTimer = s.analog.setTimer ∧
      (∀ d, d ≠ c → t.analog.get d = s.analog.get d) ∧
      (t.analog.get c).code = code ∧ (t.analog.get c).present = true ∧
      (t.analog.get c).overRange = decide (code.toNat = 0 ∨ code.toNat = 4095) ∧
      (c ≠ .pnet → (t.analog.get c).value = (code.toNat * s.profile.nat .currentScale / 4095 : Nat)) ∧
      (c = .pnet → 0 ≤ s.profile.get .powerScale →
        (t.analog.get c).value = max (-(s.profile.get .powerScale))
          ((((code.toNat : Int) - 2048) * s.profile.get .powerScale).tdiv 2047)))

/-- One update of the thermal model, its steps in order, over ordered thresholds; THERMAL is posted exactly on a
change of zone (R97 to R103). -/
def Obligations.ThermalUpdateStepsTheModel : Prop :=
  ∀ s : State, s.running = true →
    ∃ t, exec .thermalUpdate s = .next t ∧
      t = { s with thermal := t.thermal, market := t.market, operator := t.operator } ∧
      t.thermal.timer = some ⟨s.time, 10000000⟩ ∧ t.thermal.factor = s.profile.nat .throttle ∧
      t.thermal.lo = s.profile.get .thetaLo ∧ t.thermal.hi = s.profile.get .thetaHi ∧
      t.thermal.crit = s.profile.get .thetaCrit ∧
      t.thermal.direction =
        (if s.analog.pnet.present = false then .both
        else if s.analog.pnet.value < 0 then .up else .down) ∧
      (s.analog.ia.present = false → s.analog.ib.present = false → s.analog.ic.present = false →
        t.thermal.theta = s.profile.get .ambient ∧ t.thermal.zone = .normal) ∧
      (s.profile.get .thetaLo < s.profile.get .thetaHi →
        s.profile.get .thetaHi < s.profile.get .thetaCrit →
        (s.analog.ia.present = true ∨ s.analog.ib.present = true ∨ s.analog.ic.present = true) →
        ∃ (largest l rise : Nat) (moved : Int),
          (largest : Int) = max 0 (max (if s.analog.ia.present then s.analog.ia.value else 0)
            (max (if s.analog.ib.present then s.analog.ib.value else 0)
              (if s.analog.ic.present then s.analog.ic.value else 0))) ∧
          l = min 8192 (largest * 4096 / s.profile.nat .ratedCurrent) ∧
          rise = s.profile.nat .ratedRise * l ^ 2 / 16777216 ∧
          moved = s.thermal.theta + (s.profile.get .ambient + rise - s.thermal.theta).tdiv
            (s.profile.get .timeConstant) ∧
          t.thermal.theta = max (-40000) (min 200000 moved) ∧
          t.thermal.zone =
            (if t.thermal.crit ≤ t.thermal.theta then
              (if s.thermal.zone = .critical ∧ t.thermal.theta < t.thermal.hi then .warning
              else .critical)
            else if t.thermal.hi ≤ t.thermal.theta then
              (if s.thermal.zone = .critical then .critical else .warning)
            else if s.thermal.zone = .critical then .warning
            else if t.thermal.lo ≤ t.thermal.theta ∧ s.thermal.zone = .warning then .warning
            else .normal)) ∧
      (t.thermal.zone ≠ s.thermal.zone →
        (∀ port, hasNotice (t.port port).notices .thermal = true) ∧
        t.market = (s.post .thermal).market ∧ t.operator = (s.post .thermal).operator) ∧
      (t.thermal.zone = s.thermal.zone → t.market = s.market ∧ t.operator = s.operator)

/-- The law of R101, with the ranges of θ and the factor, kept by every step over ordered profiles. -/
def Obligations.EveryStepKeepsTheThermalModel : Prop :=
  ∀ s t : State, ThermalSound s → step s = .next t → ThermalSound t

/-! ### Levels -/

/-- LEVEL clamps the target, makes it CURRENT and rearms the age timer (R90); the 4 s mark makes a CURRENT
target LATE and posts LEVEL_LOST; the 30 s mark makes it EXPIRED, keeps it and leaves the timer unarmed
(R92, R93). That the 30 s mark does so at every age, CURRENT included, is the model's choice (log entry
17). -/
def Obligations.OperatorTargetAges : Prop :=
  (∀ (s : State) (tag : Byte) (body : List Byte), Serves s .level .operator body →
    ∃ target : Int, target = max (-4096) (min 4096 (fieldInt body 0 4)) ∧
      exec (.level .operator tag body) s =
        .next ({ s with levels := ⟨s.levels.holdover, target, .current, some ⟨s.time, 300000000⟩⟩ }.doneWith
          .level .operator tag (beInt 2 target))) ∧
  (∀ (s : State) (timer : Timer), s.running = true → s.levels.ageTimer = some timer →
    (s.levels.age = .current →
      exec .levelAgeLate s =
        .next (State.post { s with levels := { s.levels with age := .late } } .levelLost)) ∧
    exec .levelAgeExpired s =
      .next { s with levels := { s.levels with age := .expired, ageTimer := none } })

/-- The support timer ends FIRING: RELEASING with 5 × RR steps, or with ramp 0 LOCKOUT for an IN_FORCE
record and removal for an OVERRUN one; the lockout timer returns READY with count 0. A measurement counts
in READY at or below the threshold, fires at the second in a row, and clears the count above it; in the
other phases it changes nothing (R16, R84, R85, R87). -/
def Obligations.TrigRecordsFollowTheirPhases : Prop :=
  (∀ (s : State) (id : BitVec 16) (c : Commitment) (l : LevelRecord) (d sup ramp lockout : Nat)
    (timer : Timer), s.running = true → s.book.find id.toNat = some c →
    c.snapshot = .trig d sup ramp lockout →
    ((c.standing = .inForce l ∨ (c.standing = .overrun l ∧ 0 < ramp)) →
      l.follower = .trig (.firing timer) →
      ∃ records, exec (.supportTimerExpiry id) s =
          .next { s with book := { s.book with records := records } } ∧
        records.length = s.book.records.length ∧
        ∀ (k : Nat) (e f : Commitment), s.book.records[k]? = some e → records[k]? = some f →
          (e.id ≠ c.id → f = e) ∧
          (e = c → f = { c with
            standing := (if c.isOverrun = true then Standing.overrun else Standing.inForce)
              { l with follower := .trig (if 0 < ramp then .releasing (5 * ramp)
                else if lockout = 0 then .ready 0
                else .lockout ⟨s.time, lockout * 10000000⟩) } })) ∧
    (c.standing = .overrun l → l.follower = .trig (.firing timer) → ramp = 0 →
      exec (.supportTimerExpiry id) s = .next (s.removeCommitment c)) ∧
    (c.standing = .inForce l → l.follower = .trig (.lockout timer) →
      ∃ records, exec (.lockoutTimerExpiry id) s =
          .next { s with book := { s.book with records := records } } ∧
        records.length = s.book.records.length ∧
        ∀ (k : Nat) (e f : Commitment), s.book.records[k]? = some e → records[k]? = some f →
          (e.id ≠ c.id → f = e) ∧
          (e = c → f = { c with standing := .inForce { l with follower := .trig (.ready 0) } }))) ∧
  (∀ (now nominal f d sup ramp lockout : Nat) (c : Commitment) (l : LevelRecord) (phase : TrigPhase),
    c.snapshot = .trig d sup ramp lockout → c.standing = .inForce l → l.follower = .trig phase →
    c.takeMeasurement now nominal f =
      { c with standing := .inForce { l with follower := .trig (
        match phase with
        | .ready count =>
          if f + d ≤ nominal then
            (if count = 0 then .ready 1 else .firing ⟨now, sup * 10000000⟩)
          else .ready 0
        | other => other) } })

/-- The level a cycle computation writes, product by product, with the capacity-side rule, and the required
power with it; and the records it writes: a record whose pulse ends leaves, a PENDING one is as it was
(R79 to R83, R85, R86, R91). A record that leaves takes its mark with it and posts BOOK; the planning rows
stand, for an OVERRUN record covers none; and nothing else of the part changes (R16, R19, R47, R55). -/
def Obligations.CycleComputationWritesLevels : Prop :=
  (∀ (x : CycleInputs) (snapshot : Snapshot) (capacity : Sides) (l m : LevelRecord) (side : Int → Int),
    (∀ n, side n =
      if (0 < n ∧ capacity.up = 0) ∨ (n < 0 ∧ capacity.down = 0) then 0 else n) →
    m = cycleLevel x snapshot capacity l →
    m.power = (m.level * (if 0 < m.level then (capacity.up : Int) else capacity.down)).tdiv 4096 ∧
    (∀ db full eu ed, snapshot = .prop db full eu ed → l.follower = .prop → db < full →
      m.follower = .prop ∧
      (x.holdover = 0 → x.latest ≤ x.nominal + db → x.nominal ≤ x.latest + db → m.level = 0) ∧
      (x.holdover = 0 → x.latest + db < x.nominal →
        m.level = side (min 4096 ((x.nominal - x.latest - db) * 4096 / (full - db)) : Nat)) ∧
      (x.holdover = 0 → x.nominal + db < x.latest →
        m.level = side (-((min 4096 ((x.latest - x.nominal - db) * 4096 / (full - db)) : Nat) : Int))) ∧
      (1 ≤ x.holdover → x.holdover ≤ 10 → m.level = side l.level) ∧
      (10 < x.holdover → 0 ≤ l.level → m.level = side (max 0 (l.level - 205))) ∧
      (10 < x.holdover → l.level ≤ 0 → m.level = side (min 0 (l.level + 205)))) ∧
    (∀ d sup ramp lockout, snapshot = .trig d sup ramp lockout →
      (∀ count, l.follower = .trig (.ready count) → m.level = 0 ∧ m.follower = l.follower) ∧
      (∀ timer, l.follower = .trig (.firing timer) → m.level = side 4096 ∧ m.follower = l.follower) ∧
      (∀ k, l.follower = .trig (.releasing (k + 1)) →
        m.level = side (4096 * k / (5 * ramp) : Nat) ∧
        (0 < k → m.follower = .trig (.releasing k)) ∧
        (k = 0 → 0 < lockout → m.follower = .trig (.lockout ⟨x.now, lockout * 10000000⟩)) ∧
        (k = 0 → lockout = 0 → m.follower = .trig (.ready 0))) ∧
      (∀ timer, l.follower = .trig (.lockout timer) → m.level = 0 ∧ m.follower = l.follower)) ∧
    (∀ e ramp step, snapshot = .setp e ramp → l.follower = .setp step → m.follower = .setp step ∧
      ((side x.target - l.level).natAbs ≤ step → m.level = side x.target) ∧
      (l.level + step < side x.target → m.level = side (l.level + step)) ∧
      (side x.target < l.level - step → m.level = side (l.level - step)))) ∧
  (∀ s : State, BookSound s →
    ∃ (t : State) (x : CycleInputs) (level : Commitment → LevelRecord → LevelRecord),
      t = s.cycleComputation ∧
      (∀ c l, level c l = cycleLevel x c.snapshot c.capacity l) ∧ x.now = s.time ∧
      x.nominal = s.nominal ∧ (∀ f, s.meter.latest = some f → x.latest = f) ∧
      x.holdover = (if s.meter.state = .valid then 0 else min 255 (s.levels.holdover + 1)) ∧
      x.target = (if s.levels.age = .expired then 0 else s.levels.target) ∧
      t = { s with
        book := t.book, marked := t.marked, levels := { s.levels with holdover := x.holdover }
        market := t.market, operator := t.operator } ∧
      t.book = { s.book with records := s.book.records.filterMap fun c =>
        match c.standing with
        | .pending => some c
        | .inForce l => some { c with standing := .inForce (level c l) }
        | .overrun l =>
          match l.follower with
          | .trig (.releasing k) =>
            if k ≤ 1 then none else some { c with standing := .overrun (level c l) }
          | _ => some { c with standing := .overrun (level c l) } } ∧
      t.marked = s.marked.filter (fun i => t.book.records.any fun c => c.id == i) ∧
      (t.book.records.length < s.book.records.length →
        t.market = (s.post .book).market ∧ t.operator = (s.post .book).operator) ∧
      (t.book.records.length = s.book.records.length →
        t.market = s.market ∧ t.operator = s.operator))

/-- The law of R80 and the bounds of the unit's own state, kept by every step. -/
def Obligations.EveryStepKeepsTheLevels : Prop :=
  ∀ s t : State, LevelsSound s → step s = .next t → LevelsSound t

/-! ### Dispatch -/

/-- R (R109), R′ exactly, by the throttle factor of R's direction: 4096 in NORMAL and where the direction is
not throttled, k in WARNING, 0 in CRITICAL (R104, R110); R″, which is R′ clamped to the sums of the weights
(R111) and floored to 10 W (R112); and the result's list (R120). The law of R112: neither the feeder nor
the fleet cap raises the sum or turns its sign. -/
def Obligations.FleetSumsOnlyShrink : Prop :=
  (∀ (list : List LevelEntry) (t : Thermal) (f : Fleet) (r : DispatchResult), t.factor ≤ 4096 →
    r = formResult list t f →
    r.required = (list.map LevelEntry.power).sum ∧
    r.asked.natAbs ≤ r.permitted.natAbs ∧ r.permitted.natAbs ≤ r.required.natAbs ∧
    (0 ≤ r.required → 0 ≤ r.permitted ∧ 0 ≤ r.asked) ∧
    (r.required ≤ 0 → r.permitted ≤ 0 ∧ r.asked ≤ 0) ∧ r.asked % 10 = 0 ∧
    (t.zone = .normal → r.permitted = r.required) ∧
    r.permitted = (r.required * feederFactor t r.required).tdiv 4096 ∧
    (∃ up down : Nat, up = (f.map fun e => e.2.weight.up).sum ∧
      down = (f.map fun e => e.2.weight.down).sum ∧
      r.asked = (max (-(down : Int)) (min up r.permitted)).tdiv 10 * 10) ∧
    r.calls = (list.filter fun e => decide (e.power ≠ 0)).map fun e => ⟨e.id, e.product, e.power⟩) ∧
  (∀ (u : UnitRecord),
    (u.eligible = false → u.weight = ⟨0, 0⟩) ∧
    (u.eligible = true → u.mode = .plain .auto → u.weight = u.live) ∧
    ∀ d, u.eligible = true → u.mode = .plain (.manual d) →
      u.weight = ⟨min u.live.up d.up, min u.live.down d.down⟩) ∧
  (∀ b : Book, b.levelList = b.records.filterMap fun c =>
    match c.standing with
    | .pending => none
    | .inForce l => some ⟨c.id, c.snapshot.product, l.level, l.power⟩
    | .overrun l => some ⟨c.id, c.snapshot.product, l.level, l.power⟩)

/-- The shares of a cycle (R113, R114): each unit of nonzero weight takes its proportional share of R″
floored to 10 W, and the units that the remainder pass reaches before the remainder is spent, visited from
the rotation pointer up and then from 1, take 10 W more. The law of R115: the components sum exactly to R″,
each within its unit's weight in R″'s direction and of R″'s sign. -/
def Obligations.SharesSumToTheCap : Prop :=
  ∀ s : State, s.running = true → FleetSound s →
    ∃ (t : State) (asked : Int) (weight share : Nat × UnitRecord → Nat) (total rem : Nat)
      (order : List Nat),
      exec .dispatchCycle s = .next t ∧ asked = t.apportioner.result.asked ∧
      (t.fleet.map fun e => e.2.participation).sum = asked ∧
      (∀ a u v, Fleet.get s.fleet a = some u → Fleet.get t.fleet a = some v →
        v.participation.natAbs ≤ (if 0 < asked then u.weight.up else u.weight.down) ∧
        (0 ≤ asked → 0 ≤ v.participation) ∧ (asked ≤ 0 → v.participation ≤ 0)) ∧
      (∀ e, weight e = if 0 < asked then e.2.weight.up else e.2.weight.down) ∧
      total = (s.fleet.map weight).sum ∧
      (∀ e, share e = if weight e = 0 then 0 else asked.natAbs * weight e / total / 10 * 10) ∧
      rem = asked.natAbs - (s.fleet.map share).sum ∧
      order = ((s.fleet.filter fun e => weight e != 0).map Prod.fst).filter
          (fun a => decide (s.apportioner.rotation ≤ a))
        ++ ((s.fleet.filter fun e => weight e != 0).map Prod.fst).filter
          (fun a => decide (a < s.apportioner.rotation)) ∧
      t.fleet.map (fun e => (e.1, e.2.participation)) = s.fleet.map fun e => (e.1,
        asked.sign * ((share e + if (order.take (rem / 10)).contains e.1 then 10 else 0 : Nat) : Int))

/-- A dispatch cycle (R79, R83, R107 to R120): the cycle computation; the result formed from its list; the
pointer and the timer; each unit's components and setpoint, nothing else of its record changed, the
restoration component of R117 under the condition of R116 and 0 without it; and the result handed to the
Delivery Monitor at the close. That the meter read at step 1 and at step 6 is one is the model's choice
(log entry 22). -/
def Obligations.DispatchCycleWritesSetpoints : Prop :=
  ∀ s : State, s.running = true →
    ∃ u t : State, exec .dispatchCycle s = .next t ∧
      t = u.takeResult t.apportioner.result ∧
      u = { s.cycleComputation with fleet := u.fleet, apportioner := t.apportioner } ∧
      t = { s with
        book := t.book, plan := t.plan, marked := t.marked, fleet := t.fleet, levels := t.levels
        apportioner := t.apportioner, delivery := t.delivery, market := t.market
        operator := t.operator } ∧
      t.levels = { s.levels with holdover :=
        if s.meter.state = .valid then 0 else min 255 (s.levels.holdover + 1) } ∧
      t.apportioner.rotation =
        (if s.apportioner.rotation < 240 then s.apportioner.rotation + 1 else 1) ∧
      t.apportioner.timer = some ⟨s.time, 2000000⟩ ∧
      t.apportioner.result = formResult s.cycleComputation.book.levelList s.thermal s.fleet ∧
      t.book = s.cycleComputation.book ∧
      u.fleet.length = s.fleet.length ∧ t.fleet.map Prod.fst = s.fleet.map Prod.fst ∧
      t.fleet.map (fun e => (e.2.participation, e.2.restoration, e.2.setpoint))
        = u.fleet.map (fun e => (e.2.participation, e.2.restoration, e.2.setpoint)) ∧
      ∀ (k : Nat) (e f : Nat × UnitRecord), s.fleet[k]? = some e → u.fleet[k]? = some f →
        f = (e.1, { e.2 with
          participation := f.2.participation, restoration := f.2.restoration
          setpoint := f.2.setpoint }) ∧
        ((s.delivery.episode.isSome = true ∨ s.meter.state ≠ .valid ∨
          s.profile.get .restoration ≤ 0 ∨ e.2.eligible = false) → f.2.restoration = 0) ∧
        (∀ r, s.delivery.episode = none → s.meter.state = .valid → 0 < s.profile.get .restoration →
          e.2.eligible = true → e.2.report = some r →
          ∃ (discharge charge : Nat) (need wanted : Int),
            discharge = r.maxDischarge * s.profile.nat .restoration / 100 ∧
            charge = r.maxCharge * s.profile.nat .restoration / 100 ∧
            need = (((r.soc : Int) - (r.capacity * s.profile.nat .restorationTarget / 100 : Nat))
              * 60).tdiv (s.profile.get .restorationTime) ∧
            wanted = (max (-(charge : Int)) (min discharge need)).tdiv 10 * 10 ∧
            f.2.restoration = ((wanted * feederFactor s.thermal wanted).tdiv 4096).tdiv 10 * 10) ∧
        (∀ r, e.2.report = some r → e.2.eligible = true →
          f.2.setpoint = clamp (f.2.participation + f.2.restoration) (-(r.maxCharge : Int))
            r.maxDischarge) ∧
        (∀ r test, e.2.report = some r → e.2.mode = .test test → e.2.link = .live →
          f.2.setpoint = clamp test.power (-(r.maxCharge : Int)) r.maxDischarge) ∧
        (∀ m, e.2.eligible = false → e.2.mode = .plain m → f.2.setpoint = 0) ∧
        (e.2.link ≠ .live → f.2.setpoint = 0)

/-! ### The fleet link -/

/-- The setpoint frame sent, FBDE falls and AWAITING begins with the reply timeout copied into the visit; a
character in QUIET restarts the 100 µs wait and leaves the 1 ms bound. The end of QUIET takes the next
step of the walk: the next entry to visit gets the setpoint frame its record gives at that moment; with
none left and the round timer running the controller paces (R124, R126, R127, R129, R130, R135); that no
visit is held while it paces is the model's choice (log entry 14). The round timer that expires during the
walk is only marked expired, and the walk goes on; one that expires in PACING completes the round and
starts the next (R127, R128). -/
def Obligations.VisitPhasesAdvance : Prop :=
  ((∀ (s : State) (v : Visit), s.running = true → s.link.phase = .sending → s.link.visit = some v →
    exec .setpointFrameSent s = .next { s with link := { s.link with
      fbde := false, phase := .awaiting ⟨s.time, v.timeout * 10000⟩ } }) ∧
  (∀ (s : State) (wait bound : Timer), s.running = true → s.link.phase = .quiet wait bound →
    exec .quietCharacterReceived s = .next { s with link := { s.link with
      phase := .quiet ⟨s.time, 1000⟩ bound } })) ∧
  (∀ (s : State) (timer : Timer), s.running = true → s.link.roundTimer = some timer →
    (s.link.phase ≠ .pacing →
      exec .roundTimerExpiry s = .next { s with link := { s.link with roundTimer := none } }) ∧
    (s.link.phase = .pacing →
      ∃ t, exec .roundTimerExpiry s = .next t ∧ t.link.roundTimer = some ⟨s.time, 2000000⟩ ∧
        t.link.round = (if s.link.round < 4294967295 then s.link.round + 1 else 0) ∧
        t.link.startIndex = (if s.link.startIndex < 240 then s.link.startIndex + 1 else 1))) ∧
  (∀ (s : State) (wait bound : Timer), s.running = true → s.link.phase = .quiet wait bound →
    (∀ a u, s.link.ahead.find? (fun b => (Fleet.get s.fleet b).any fun w =>
        w.link != .lost || s.link.round % 10 == 0) = some a → Fleet.get s.fleet a = some u →
      exec .quietEnd s = .next { s with link := { s.link with
        position := some a, phase := .sending, fbde := true
        visit := some ⟨a, ⟨a, if u.link = .live then u.setpoint.tdiv 10 else 0,
          decide (u.participation ≠ 0), decide (u.restoration ≠ 0), u.inTest,
          s.delivery.episode.isSome⟩, s.profile.nat .replyTimeout, false, []⟩ } }) ∧
    (s.link.ahead.find? (fun b => (Fleet.get s.fleet b).any fun w =>
        w.link != .lost || s.link.round % 10 == 0) = none → s.link.roundTimer.isSome = true →
      exec .quietEnd s = .next { s with link := { s.link with
        phase := .pacing, visit := none, fbde := false } }))

/-- The ends of AWAITING (R28, R31, R32, R130 to R134): a good report is taken, a failed visit counts a
miss, a visit whose record was removed hands over nothing; QUIET begins in each case. What a complete frame
is, the five checks of R131 in their order with the cause of each, and the report and holds a good frame
carries (Table 10-5, powers times 10), are written out first. The receive buffer that the visit keeps in
QUIET, the frame or the refused length, empty after a timeout, is the model's choice (log entry 14). -/
def Obligations.AwaitingEndsWithItsOutcome : Prop :=
  ((∀ frame, frameComplete frame = true ↔
      field frame 0 1 = frame.length ∧ 20 ≤ frame.length ∧ frame.length ≤ 64) ∧
    ∀ (address n : Nat) (frame holdBytes : List Byte), frameComplete frame = true → n = frame.length →
      holdBytes = (frame.drop 18).take (n - 20) →
      (field frame (n - 2) 2 ≠ (crc16 (frame.take (n - 2))).toNat →
        judgeFrame address frame = .error .badCheck) ∧
      (field frame (n - 2) 2 = (crc16 (frame.take (n - 2))).toNat →
        (field frame 1 1 ≠ 2 → judgeFrame address frame = .error .malformed) ∧
        (field frame 1 1 = 2 → field frame 2 1 ≠ address →
          judgeFrame address frame = .error .wrongAddress) ∧
        (field frame 1 1 = 2 → field frame 2 1 = address →
          ((4 < field frame 17 1 ∨
              ∀ holds : List Hold, holds.length = field frame 17 1 → ¬CarriesHolds holdBytes holds) →
            judgeFrame address frame = .error .malformed) ∧
          ∀ holds : List Hold, field frame 17 1 ≤ 4 → holds.length = field frame 17 1 →
            CarriesHolds holdBytes holds →
            judgeFrame address frame = .ok
              ⟨{ soc := field frame 3 2, capacity := field frame 5 2, power := fieldInt frame 7 2 * 10
                 maxDischarge := field frame 9 2 * 10, maxCharge := field frame 11 2 * 10
                 floor := field frame 13 2, fault := field frame 15 1
                 optOut := (field frame 16 1).testBit 0 }, holds⟩))) ∧
  ∀ (s : State) (timeout : Timer) (v : Visit), s.running = true → s.link.phase = .awaiting timeout →
    s.link.visit = some v →
    ∃ quiet : State → List Byte → State,
      (∀ u buffer, quiet u buffer = { u with link := { s.link with
        phase := .quiet ⟨s.time, 1000⟩ ⟨s.time, 10000⟩, visit := some { v with buffer := buffer } } }) ∧
      (v.removed = true →
        exec .replyTimeout s = .next (quiet s []) ∧
        (∀ length : Byte, (length.toNat < 20 ∨ 64 < length.toNat) →
          exec (.reportLengthInvalid length) s = .next (quiet s [length])) ∧
        ∀ frame, frameComplete frame = true →
          exec (.reportFrameReceived frame) s = .next (quiet s frame)) ∧
      (v.removed = false →
        exec .replyTimeout s = .next (quiet (s.takeFailure v.address) []) ∧
        (∀ length : Byte, (length.toNat < 20 ∨ 64 < length.toNat) →
          exec (.reportLengthInvalid length) s =
            .next (quiet (s.takeFailure v.address) [length])) ∧
        (∀ frame cause, frameComplete frame = true → judgeFrame v.address frame = .error cause →
          exec (.reportFrameReceived frame) s = .next (quiet (s.takeFailure v.address) frame)) ∧
        ∀ frame report, frameComplete frame = true → judgeFrame v.address frame = .ok report →
          exec (.reportFrameReceived frame) s = .next (quiet (s.takeReport v.address report) frame))

/-- What a failed visit and a good report do to the unit's record (R27 to R29, R31 to R33, R35, R37): a
failed visit changes the miss count and the link state alone, unless the unit leaves LIVE, whose running
test then ends ABORTED in its prior mode; a good report keeps, of the holds it carries, those that end no
earlier than they start, in their order, floors clamped to the capacity. And what the Fleet Table does with
either: it judges by the limits of the working profile, writes the record, and posts TEST on an abort and
UNIT on a change of link state or of bar reasons; a VACANT entry takes neither (R28, R30). -/
def Obligations.VisitOutcomesMoveTheRecord : Prop :=
  (∀ (u : UnitRecord) (stale lost : Nat) (carried : CarriedReport),
    ((u.failVisit stale lost).misses = min 255 (u.misses + 1) ∧
      (u.failVisit stale lost).report = u.report ∧ (u.failVisit stale lost).holds = u.holds ∧
      (u.failVisit stale lost).g = u.g ∧ (u.failVisit stale lost).bars = u.bars ∧
      (u.failVisit stale lost).link =
        (match u.link with
          | .live => if stale ≤ min 255 (u.misses + 1) then .stale else .live
          | .joining => if lost ≤ min 255 (u.misses + 1) then .lost else .joining
          | .stale => if lost ≤ min 255 (u.misses + 1) then .lost else .stale
          | .lost => .lost) ∧
      (u.link = .live → (u.failVisit stale lost).link ≠ .live →
        (u.failVisit stale lost).setpoint = 0 ∧ (u.failVisit stale lost).participation = 0 ∧
        (u.failVisit stale lost).restoration = 0 ∧ (u.failVisit stale lost).baseline = none ∧
        (u.failVisit stale lost).inTest = false ∧ (u.failVisit stale lost).live = u.live ∧
        (∀ t, u.mode = .test t → (u.failVisit stale lost).mode = .plain t.prior ∧
          (u.failVisit stale lost).lastTest = some .aborted) ∧
        ∀ m, u.mode = .plain m → (u.failVisit stale lost).mode = u.mode ∧
          (u.failVisit stale lost).lastTest = u.lastTest) ∧
      ((u.link ≠ .live ∨ (u.failVisit stale lost).link = .live) →
        u.failVisit stale lost = { u with
          misses := (u.failVisit stale lost).misses, link := (u.failVisit stale lost).link })) ∧
    ∃ r : Report, r = { carried.report with
        soc := min carried.report.soc carried.report.capacity
        floor := min carried.report.floor carried.report.capacity } ∧
      (u.takeReport carried).link = .live ∧ (u.takeReport carried).misses = 0 ∧
      (u.takeReport carried).report = some r ∧
      (u.takeReport carried).setpoint =
        (if u.setpoint < -(r.maxCharge : Int) then -(r.maxCharge : Int)
        else if (r.maxDischarge : Int) < u.setpoint then r.maxDischarge else u.setpoint) ∧
      (u.takeReport carried).participation = u.participation ∧
      (u.takeReport carried).restoration = u.restoration ∧ (u.takeReport carried).g = u.g ∧
      (u.takeReport carried).live = u.live ∧ (u.takeReport carried).baseline = u.baseline ∧
      (u.takeReport carried).lastTest = u.lastTest ∧
      (u.takeReport carried).bars =
        ⟨decide (carried.report.fault ≠ 0), carried.report.optOut, u.bars.lowResponse⟩ ∧
      (u.takeReport carried).holds = (carried.holds.filter fun h => decide (h.start ≤ h.stop)).map
        (fun h => match h.kind with
          | .withdraw => h
          | .floor e => ⟨h.start, h.stop, .floor (min e r.capacity)⟩) ∧
      (∀ h ∈ (u.takeReport carried).holds, h.start ≤ h.stop ∧ ∀ e, h.kind = .floor e →
        e ≤ r.capacity) ∧
      (∀ m, u.mode = .plain m → (u.takeReport carried).mode = u.mode) ∧
      (∀ t, u.mode = .test t → (u.takeReport carried).mode = .test { t with
        count := t.count + 1, accumulator := t.accumulator + (r.power - t.preTest) })) ∧
  (∀ (s : State) (a : Nat) (carried : CarriedReport),
    (Fleet.get s.fleet a = none → s.takeFailure a = s ∧ s.takeReport a carried = s) ∧
    ∀ u, Fleet.get s.fleet a = some u → ∃ v w : UnitRecord,
      v = u.failVisit (s.profile.nat .staleLimit) (s.profile.nat .lostLimit) ∧
      w = u.takeReport carried ∧
      s.takeFailure a = State.postIf (State.postIf { s with fleet := Fleet.put s.fleet a v }
        (u.inTest && u.link == .live && v.link != .live) .test) (v.link != u.link) .unit ∧
      s.takeReport a carried = State.postIf { s with fleet := Fleet.put s.fleet a w }
        (u.link != .live || w.bars != u.bars) .unit)

/-- A round passes each of the 240 indices once, from its start index up to 240 and then from 1 (R126). -/
def Obligations.RoundsPassEachIndexOnce : Prop :=
  ∀ start : Nat, 1 ≤ start → start ≤ 240 →
    (walkOrder start).head? = some start ∧ (walkOrder start).length = 240 ∧ (walkOrder start).Nodup ∧
    (∀ k, k < 240 → (walkOrder start)[k]? = some ((start - 1 + k) % 240 + 1)) ∧
    (∀ a, a ∈ walkOrder start ↔ 1 ≤ a ∧ a ≤ 240) ∧
    ∀ (l : Link) (p : Nat), l.startIndex = start → l.position = some p → p ∈ walkOrder start →
      p ∉ l.ahead ∧ ∃ done, walkOrder start = done ++ p :: l.ahead

/-- The law of the fleet link, kept by every step: FBDE high exactly in SENDING, indices in 1..240, and no
pacing without a round timer (R123, R125 to R129); that a visit is held exactly outside PACING is the
model's choice (log entry 14). -/
def Obligations.EveryStepKeepsTheFleetLink : Prop :=
  ∀ s t : State, LinkSound s → step s = .next t → LinkSound t

/-! ### Delivery -/

/-- A dispatch result at the Delivery Monitor (R139 to R149, R152): R = 0 or an exhausted number opens
nothing; R ≠ 0 opens the next episode, takes the baselines, posts EPISODE_OPEN, aborts a running test with
TEST posted, and accounts its first cycle; a result in an open episode is accounted, its commitments listed
up to eight, a judged short cycle counted, and SHORTFALL posted once a run; the quiet period closes the
episode into the log, drops the baselines and posts EPISODE_CLOSED. Nothing else of the part changes. -/
def Obligations.EpisodesOpenAccrueAndClose : Prop :=
  (∀ (x : List Contributor × Bool) (c : Call),
    ((∃ e ∈ x.1, e.id = c.id) → contribute x c =
      (x.1.map fun e => if e.id = c.id then { e with energy := e.energy + c.power.natAbs } else e,
        x.2)) ∧
    ((∀ e ∈ x.1, e.id ≠ c.id) → x.1.length < 8 →
      contribute x c = (x.1 ++ [⟨c.id, c.product, c.power.natAbs⟩], x.2)) ∧
    ((∀ e ∈ x.1, e.id ≠ c.id) → 8 ≤ x.1.length → contribute x c = (x.1, true))) ∧
  ∀ (s t : State) (r : DispatchResult), t = s.takeResult r →
    r.required.natAbs ≤ 18446744073709551615 → r.permitted.natAbs ≤ 18446744073709551615 →
    0 < s.profile.nat .quietPeriod →
    (s.delivery.episode = none → (r.required = 0 ∨ s.delivery.nextNumber = none) → t = s) ∧
    (∀ number, s.delivery.episode = none → r.required ≠ 0 → s.delivery.nextNumber = some number →
      ∃ (e : Episode) (listed : List Contributor × Bool),
        listed = r.calls.foldl contribute ([], false) ∧
        e =
          { number := number, openSlot := s.clock.slot, openSecond := s.clock.second
            energies := ⟨r.required.natAbs, r.permitted.natAbs,
              r.required.natAbs - r.permitted.natAbs, 0, r.permitted.natAbs⟩
            peak := r.permitted.natAbs, contributors := listed.1, overflow := listed.2
            shortCycles := 0, delivered := 0, previous := r.permitted.natAbs, grace := 10
            shortRun := 0, reported := false, quiet := 0, lastRequired := r.required
            lastPermitted := r.permitted, lastAsked := r.asked } ∧
        t = State.postIf (State.post { s with
            delivery := ⟨some e, s.delivery.log,
              if number < 4294967295 then some (number + 1) else none⟩
            fleet := s.fleet.map fun x => (x.1, { x.2 with
              baseline := match x.2.link, x.2.report with
                | .live, some report => some (report.power - x.2.restoration)
                | _, _ => x.2.baseline
              mode := match x.2.mode with
                | .test k => .plain k.prior
                | .plain m => .plain m
              lastTest := if x.2.inTest then some .aborted else x.2.lastTest }) } .episodeOpen)
          (s.fleet.any fun x => x.2.inTest) .test) ∧
    (∀ e, s.delivery.episode = some e →
      ∃ (c permitted run : Nat) (judged short : Prop) (listed : List Contributor × Bool) (f : Episode)
        (u : State),
        permitted = r.permitted.natAbs ∧
        c = min permitted (e.delivered * r.permitted.sign).toNat ∧
        (judged ↔ permitted ≤ e.previous ∧ e.grace = 0) ∧
        (short ↔ judged ∧ max (s.profile.nat .toleranceFloor)
          (permitted * s.profile.nat .tolerance / 4096) < permitted - c) ∧
        run = min 255 (e.shortRun + 1) ∧
        listed = r.calls.foldl contribute (e.contributors, e.overflow) ∧
        f = { e with
          energies := ⟨min 18446744073709551615 (e.energies.required + r.required.natAbs),
            min 18446744073709551615 (e.energies.permitted + permitted),
            min 18446744073709551615 (e.energies.gridLimited + (r.required.natAbs - permitted)),
            min 18446744073709551615 (e.energies.delivered + c),
            min 18446744073709551615 (e.energies.shortfall + (permitted - c))⟩
          peak := max e.peak permitted, contributors := listed.1, overflow := listed.2
          shortCycles := f.shortCycles
          grace := if e.previous < permitted then 10 else e.grace - 1
          shortRun := f.shortRun, reported := f.reported
          quiet := if r.required = 0 then e.quiet + 1 else 0
          previous := permitted, lastRequired := r.required, lastPermitted := r.permitted
          lastAsked := r.asked } ∧
        (short → f.shortCycles = min 4294967295 (e.shortCycles + 1) ∧ f.shortRun = run ∧
          (f.reported = true ↔ e.reported = true ∨ s.profile.nat .shortRunLimit ≤ run)) ∧
        (¬short → f.shortCycles = e.shortCycles) ∧
        ((e.previous < permitted ∨ (judged ∧ ¬short)) → f.shortRun = 0 ∧ f.reported = false) ∧
        (permitted ≤ e.previous → 0 < e.grace →
          f.shortRun = e.shortRun ∧ f.reported = e.reported) ∧
        ((short ∧ s.profile.nat .shortRunLimit ≤ run ∧ e.reported = false) →
          u = State.post { s with delivery := { s.delivery with episode := some f } } .shortfall) ∧
        (¬(short ∧ s.profile.nat .shortRunLimit ≤ run ∧ e.reported = false) →
          u = { s with delivery := { s.delivery with episode := some f } }) ∧
        (f.quiet < 5 * s.profile.nat .quietPeriod → t = u) ∧
        (5 * s.profile.nat .quietPeriod ≤ f.quiet →
          ∃ record : EpisodeRecord,
            record =
              { number := e.number, openSlot := e.openSlot, openSecond := e.openSecond
                closeSlot := s.clock.slot, closeSecond := s.clock.second
                contributors := f.contributors.map fun x => ⟨x.id, x.product, x.energy / 18000⟩
                overflow := f.overflow, peak := f.peak
                energies := ⟨f.energies.required / 18000, f.energies.permitted / 18000,
                  f.energies.gridLimited / 18000, f.energies.delivered / 18000,
                  f.energies.shortfall / 18000⟩
                shortCycles := f.shortCycles
                outcome := if f.energies.shortfall
                    ≤ f.energies.permitted * s.profile.nat .tolerance / 4096 then .met else .short
                gridLimited := decide (0 < f.energies.gridLimited) } ∧
            t = State.post { u with
              delivery := ⟨none, s.delivery.log.drop (if s.delivery.log.length < 32 then 0 else 1)
                ++ [record], s.delivery.nextNumber⟩
              fleet := s.fleet.map fun x => (x.1, { x.2 with baseline := none }) } .episodeClosed))

/-- The laws of R143 and R149, kept by every step: delivered ≤ permitted ≤ required in the open episode and
in every record, and a log of at most 32 records in rising number. -/
def Obligations.EveryStepKeepsTheDeliveryAccount : Prop :=
  ∀ s t : State, DeliverySound s → step s = .next t → DeliverySound t

/-! ### Parameters and profiles -/

/-- PARAM-SET (R159): BAD_FIELD; the applied value (a numeric value clamped, an attention mode checked, a
set without the members it cannot hold); ORDER; and otherwise one parameter replaced, with both attention
lines judged at once by R164 and R165. -/
def Obligations.ParamSetWritesOneParameter : Prop :=
  ∀ (s : State) (tag : Byte) (body : List Byte), Serves s .paramSet .market body →
    (ParamId.ofCode (field body 0 1) = none →
      exec (.paramSet .market tag body) s = .next (s.refusedWith .paramSet .market tag .badField)) ∧
    (∀ i, ParamId.ofCode (field body 0 1) = some i → i.range = .mode →
      fieldInt body 1 4 ≠ 0 → fieldInt body 1 4 ≠ 1 →
      exec (.paramSet .market tag body) s = .next (s.refusedWith .paramSet .market tag .badField)) ∧
    ∀ (i : ParamId) (v : Int), ParamId.ofCode (field body 0 1) = some i →
      (∀ lo hi, i.range = .numeric lo hi → v = max lo (min hi (fieldInt body 1 4))) →
      (i.range = .mode → v = fieldInt body 1 4 ∧ (v = 0 ∨ v = 1)) →
      (∀ mask, i.range = .members mask →
        v = ((fieldInt body 1 4 % 4294967296).toNat &&& mask : Nat)) →
      ∃ p : Profile, p.get i = v ∧ (∀ j, j ≠ i → p.get j = s.profile.get j) ∧
        (((i ∈ [ParamId.thetaLo, .thetaHi, .thetaCrit] ∧
            (p.get .thetaHi ≤ p.get .thetaLo ∨ p.get .thetaCrit ≤ p.get .thetaHi)) ∨
          (i ∈ [ParamId.deadband, .fullDeviation] ∧ p.get .fullDeviation ≤ p.get .deadband)) →
          exec (.paramSet .market tag body) s =
            .next (s.refusedWith .paramSet .market tag .order)) ∧
        ((i ∈ [ParamId.thetaLo, .thetaHi, .thetaCrit] →
            p.get .thetaLo < p.get .thetaHi ∧ p.get .thetaHi < p.get .thetaCrit) →
          (i ∈ [ParamId.deadband, .fullDeviation] → p.get .deadband < p.get .fullDeviation) →
          ∃ u : State, u = { s with profile := p, market := u.market, operator := u.operator } ∧
            exec (.paramSet .market tag body) s = .next (u.doneWith .paramSet .market tag
              (be 1 (field body 0 1) ++ beInt 4 v)) ∧
            ∀ port, ∃ x : PortState, u.port port = x ∧
              x = { s.port port with line := x.line, gap := x.gap, owed := x.owed } ∧
              (p.pulseMode port = false →
                x.line = (x.notices &&& p.enables port != 0) ∧ x.gap = false ∧ x.owed = 0) ∧
              (p.pulseMode port = true → s.profile.pulseMode port = false →
                x.line = false ∧ x.gap = false ∧ x.owed = 0) ∧
              (p.pulseMode port = true → s.profile.pulseMode port = true → x = s.port port))

/-- Table 11-2: the id, the range and the default of every parameter, with slot FACTORY holding the
defaults (R167), and where a port's enable set and attention mode stand. PARAM-READ and PARAM-DESCRIBE
answer the id, and the value or the range, default and value; they change nothing. For a set or an
enumerated parameter the range given is 0 and the set of all its members, in the low bits: 3 for the two
attention modes (R160, chapter 11 under Table 11-2). -/
def Obligations.ParametersAreReadBack : Prop :=
  ((∀ i : ParamId, (i.code, i.range, i.default) =
      match i with
      | .deadband => (0x01, .numeric 0 200, 10)
      | .fullDeviation => (0x02, .numeric 50 1000, 200)
      | .enduranceUp => (0x03, .numeric 15 120, 30)
      | .enduranceDown => (0x04, .numeric 15 120, 30)
      | .trigDeviation => (0x05, .numeric 100 1000, 300)
      | .trigSupport => (0x06, .numeric 2 60, 30)
      | .trigRamp => (0x07, .numeric 0 30, 10)
      | .trigLockout => (0x08, .numeric 0 900, 60)
      | .setpEndurance => (0x09, .numeric 15 240, 60)
      | .setpRamp => (0x0A, .numeric 1 300, 30)
      | .margin => (0x0B, .numeric 2048 4096, 3686)
      | .dispatchEndurance => (0x0C, .numeric 1 60, 15)
      | .technicalFloor => (0x0D, .numeric 0 30, 10)
      | .ceilingMargin => (0x0E, .numeric 0 30, 5)
      | .restorationTarget => (0x0F, .numeric 20 80, 50)
      | .restorationTime => (0x10, .numeric 10 240, 60)
      | .restoration => (0x11, .numeric 0 50, 20)
      | .replyTimeout => (0x12, .numeric 2 20, 5)
      | .staleLimit => (0x13, .numeric 2 10, 3)
      | .lostLimit => (0x14, .numeric 10 100, 25)
      | .gMin => (0x15, .numeric 0 4096, 2867)
      | .testDuration => (0x16, .numeric 10 120, 30)
      | .testFraction => (0x17, .numeric 10 100, 50)
      | .ratedCurrent => (0x18, .numeric 10 2000, 400)
      | .currentScale => (0x19, .numeric 10 4000, 800)
      | .powerScale => (0x1A, .numeric 50000 5000000, 500000)
      | .ratedRise => (0x1B, .numeric 10000 100000, 60000)
      | .timeConstant => (0x1C, .numeric 60 7200, 1800)
      | .ambient => (0x1D, .numeric (-20000) 50000, 20000)
      | .thetaLo => (0x1E, .numeric 30000 180000, 85000)
      | .thetaHi => (0x1F, .numeric 30000 180000, 95000)
      | .thetaCrit => (0x20, .numeric 30000 180000, 110000)
      | .throttle => (0x21, .numeric 0 4096, 2048)
      | .tolerance => (0x22, .numeric 0 1024, 410)
      | .toleranceFloor => (0x23, .numeric 0 10000, 500)
      | .shortRunLimit => (0x24, .numeric 5 250, 25)
      | .quietPeriod => (0x25, .numeric 1 120, 10)
      | .channelEnables => (0x26, .members 15, 15)
      | .marketAttention => (0x27, .mode, 0)
      | .operatorAttention => (0x28, .mode, 0)
      | .marketEnables => (0x29, .members 4095, 4095)
      | .operatorEnables => (0x2A, .members 511, 511)) ∧
    (∀ (code : Nat) (i : ParamId), ParamId.ofCode code = some i ↔ i.code = code) ∧
    (∀ i : ParamId, Profile.factory.get i = i.default) ∧
    ∀ p : Profile, p.enables .market = BitVec.ofInt 12 (p.get .marketEnables) ∧
      p.enables .operator = BitVec.ofInt 12 (p.get .operatorEnables) ∧
      (p.pulseMode .market = true ↔ p.get .marketAttention = 1) ∧
      (p.pulseMode .operator = true ↔ p.get .operatorAttention = 1)) ∧
  (∀ (s : State) (port : Port) (tag id : Byte), Serves s .paramRead port [id] →
    exec (.paramRead port tag [id]) s =
      match ParamId.ofCode id.toNat with
      | none => .next (s.refusedWith .paramRead port tag .badField)
      | some i => .next (s.doneWith .paramRead port tag (id :: beInt 4 (s.profile.get i)))) ∧
  (∀ (s : State) (port : Port) (tag id : Byte), Serves s .paramDescribe port [id] →
    (ParamId.ofCode id.toNat = none →
      exec (.paramDescribe port tag [id]) s =
        .next (s.refusedWith .paramDescribe port tag .badField)) ∧
    ∀ i, ParamId.ofCode id.toNat = some i →
      exec (.paramDescribe port tag [id]) s = .next (s.doneWith .paramDescribe port tag
        (id :: ((match i.range with
          | .numeric lo hi => beInt 4 lo ++ beInt 4 hi
          | .members mask => be 4 0 ++ be 4 mask
          | .mode => be 4 0 ++ be 4 3)
            ++ beInt 4 i.default ++ beInt 4 (s.profile.get i)))))

/-- PROFILE-SAVE and PROFILE-STARTUP begin a store write that makes its target invalid and stay in service;
a slot number they do not take is refused; RESTART is answered DONE and stays in service (R157, R168,
R169). -/
def Obligations.LongRequestsStayInService : Prop :=
  (∀ (s : State) (tag n : Byte), Serves s .profileSave .market [n] →
    ∃ serving : RequestKind → Store → State,
      (∀ kind store, serving kind store = { s with
        store := store
        market := { s.market with service := some ⟨kind, tag⟩, receiver := .hunting false } }) ∧
      ((n ≠ 1 ∧ n ≠ 2) → exec (.profileSave .market tag [n]) s =
        .next (s.refusedWith .profileSave .market tag .badField)) ∧
      (n = 1 → exec (.profileSave .market tag [n]) s = .next (serving .profileSave { s.store with
        slot1 := { s.store.slot1 with valid := false }
        write := some (.image false s.profile (s.fleet.map fun e =>
          ⟨e.1, (match e.2.mode with
            | .plain m => m
            | .test t => t.prior), e.2.g⟩)) })) ∧
      (n = 2 → exec (.profileSave .market tag [n]) s = .next (serving .profileSave { s.store with
        slot2 := { s.store.slot2 with valid := false }
        write := some (.image true s.profile (s.fleet.map fun e =>
          ⟨e.1, (match e.2.mode with
            | .plain m => m
            | .test t => t.prior), e.2.g⟩)) })) ∧
      (2 < n.toNat → exec (.profileStartup .market tag [n]) s =
        .next (s.refusedWith .profileStartup .market tag .badField)) ∧
      (n.toNat ≤ 2 → exec (.profileStartup .market tag [n]) s =
        .next (serving .profileStartup { s.store with
          selector := { s.store.selector with valid := false }
          write := some (.selector (if n = 0 then .factory else if n = 1 then .one else .two)) }))) ∧
  (∀ (s : State) (tag : Byte), Serves s .restart .market [] →
    exec (.restart .market tag []) s =
      .next ((s.doneWith .restart .market tag []).setPort .market
        { (s.doneWith .restart .market tag []).market with service := some ⟨.restart, tag⟩ }))

/-- A store write that ends makes its target valid with the contents formed at its start, answers DONE and
posts STORE (R168, R169). -/
def Obligations.StoreWritesEndValid : Prop :=
  ∀ (s : State) (kind : RequestKind) (tag : Byte), s.running = true →
    s.market.service = some ⟨kind, tag⟩ →
    ∃ ended : Store → State,
      (∀ store, ended store = State.post { s with
        store := store
        market := { s.market.transmit ⟨kind.code, tag, .done, .clear, []⟩ with service := none } }
        .store) ∧
      (∀ p list, s.store.write = some (.image false p list) →
        exec .saveWriteComplete s =
          .next (ended { s.store with slot1 := ⟨p, list, true⟩, write := none })) ∧
      (∀ p list, s.store.write = some (.image true p list) →
        exec .saveWriteComplete s =
          .next (ended { s.store with slot2 := ⟨p, list, true⟩, write := none })) ∧
      (∀ slot, s.store.write = some (.selector slot) →
        exec .startupWriteComplete s =
          .next (ended { s.store with selector := ⟨slot, true⟩, write := none }))

/-- PROFILE-LOAD (R170, R38): its refusals in their order; otherwise the parameter set and the table are
the slot's, with every unit JOINING, a visit in SENDING or AWAITING is marked, STORE and UNIT are posted to
the Market Port, and TEST exactly where a test was running; a line in LEVEL mode is judged at once; into
PULSE the line goes low with nothing owed; in PULSE each kind newly pending and enabled in the profile
loaded then gives a pulse (R164, R165; that the load changes the profile first, and that the count of pulses
owed falls as a pulse begins, are the model's choices, log entries 16 and 8); the reply is DONE and nothing
else changes. -/
def Obligations.ProfileLoadRebuildsTheTable : Prop :=
  ∀ (s : State) (tag n : Byte), Serves s .profileLoad .market [n] →
    (2 < n.toNat → exec (.profileLoad .market tag [n]) s =
      .next (s.refusedWith .profileLoad .market tag .badField)) ∧
    (n.toNat ≤ 2 → (∃ c ∈ s.book.records, c.isPending = false) →
      exec (.profileLoad .market tag [n]) s =
        .next (s.refusedWith .profileLoad .market tag .wrongState)) ∧
    ((∀ c ∈ s.book.records, c.isPending = true) →
      ((n = 1 ∧ s.store.slot1.valid = false) ∨ (n = 2 ∧ s.store.slot2.valid = false)) →
      exec (.profileLoad .market tag [n]) s =
        .next (s.refusedWith .profileLoad .market tag .storeInvalid)) ∧
    (∀ x : StoredProfile, (∀ c ∈ s.book.records, c.isPending = true) →
      ((n = 0 ∧ x = ⟨.factory, [], true⟩) ∨ (n = 1 ∧ x = s.store.slot1 ∧ x.valid = true) ∨
        (n = 2 ∧ x = s.store.slot2 ∧ x.valid = true)) →
      ∃ (u : State) (posted : List Notice), exec (.profileLoad .market tag [n]) s =
          .next (u.doneWith .profileLoad .market tag []) ∧
        u = { s with
          profile := x.profile, fleet := u.fleet, link := u.link, market := u.market
          operator := u.operator } ∧
        u.fleet = x.enrolment.map (fun e => (e.address, e.unit)) ∧
        u.link = { s.link with visit := u.link.visit } ∧
        (∀ v, s.link.visit = some v → u.link.visit = some { v with removed := v.removed ||
          (s.link.phase == .sending ||
            match s.link.phase with
            | .awaiting _ => true
            | _ => false) }) ∧
        (s.link.visit = none → u.link.visit = none) ∧
        hasNotice u.market.notices .unit = true ∧ hasNotice u.market.notices .store = true ∧
        ((∃ e ∈ s.fleet, e.2.inTest = true) → hasNotice u.market.notices .test = true) ∧
        (∀ k, hasNotice u.market.notices k = (hasNotice s.market.notices k || k == .unit || k == .store
          || (k == .test && s.fleet.any fun e => e.2.inTest))) ∧
        u.operator.notices = s.operator.notices ∧
        (∀ port, ∃ y, u.port port = y ∧
          y = { s.port port with
            notices := y.notices, line := y.line, gap := y.gap, owed := y.owed } ∧
          (x.profile.pulseMode port = false →
            y.line = (y.notices &&& x.profile.enables port != 0) ∧ y.gap = false ∧ y.owed = 0)) ∧
        (x.profile.pulseMode .operator = true →
          (s.profile.pulseMode .operator = true → u.operator = s.operator) ∧
          (s.profile.pulseMode .operator = false →
            u.operator.line = false ∧ u.operator.gap = false ∧ u.operator.owed = 0)) ∧
        posted = [Notice.unit, .store, .test].filter (fun k => hasNotice u.market.notices k &&
          !hasNotice s.market.notices k && hasNotice (x.profile.enables .market) k) ∧
        (PortsSound s → x.profile.pulseMode .market = true →
          ∃ (line gap : Bool) (owed : Nat),
            line = (s.profile.pulseMode .market && s.market.line) ∧
            gap = (s.profile.pulseMode .market && s.market.gap) ∧
            owed = (if s.profile.pulseMode .market then s.market.owed else 0) ∧
            u.market.gap = gap ∧
            ((line = true ∨ gap = true) →
              u.market.line = line ∧ u.market.owed = min 15 (owed + posted.length)) ∧
            (line = false → gap = false → u.market.line = decide (0 < posted.length) ∧
              u.market.owed = posted.length - 1)))
end

