-- ==== Sys2Proof/Laws/Bytes.lean ====
section
/-! SUPPORT. Bytes: the lengths of the field writers, and what a field reader gives back. -/

namespace Sys2Proof.Machine

@[simp] theorem be_length (n v : Nat) : (be n v).length = n := by
  induction n with
  | zero => rfl
  | succ n ih => simp [be, ih]

@[simp] theorem beInt_length (n : Nat) (x : Int) : (beInt n x).length = n := be_length ..

@[simp] theorem beEnergy_length (v : Nat) : (beEnergy v).length = 4 := be_length ..

@[simp] theorem beFlag_length (b : Bool) : (beFlag b).length = 1 := rfl

@[simp] theorem crcBytes_length (l : List Byte) : (crcBytes l).length = 2 := be_length ..

/-- Reading on after some bytes: the number so far, shifted, and the rest. -/
theorem readBytes_from (l : List Byte) (a : Nat) :
    l.foldl (fun acc b => acc * 256 + b.toNat) a = a * 256 ^ l.length + readBytes l := by
  unfold readBytes
  induction l generalizing a with
  | nil => simp
  | cons b l ih =>
    simp only [List.foldl_cons, List.length_cons]
    rw [ih, ih (0 * 256 + b.toNat), Nat.pow_succ]; ring

theorem readBytes_cons (b : Byte) (l : List Byte) :
    readBytes (b :: l) = b.toNat * 256 ^ l.length + readBytes l := by
  have h := readBytes_from l b.toNat
  simpa [readBytes] using h

/-- A number written in `n` bytes reads back as its low `n` bytes. -/
@[simp] theorem readBytes_be (n v : Nat) : readBytes (be n v) = v % 256 ^ n := by
  induction n generalizing v with
  | zero => simp [be, readBytes, Nat.mod_one]
  | succ n ih =>
    rw [be, readBytes_cons, be_length, ih, BitVec.toNat_ofNat, show 2 ^ 8 = 256 from rfl]
    have h := Nat.mod_mul (x := v) (a := 256 ^ n) (b := 256)
    rw [Nat.pow_succ, h]; ring

/-- A field written at a known place reads back. -/
theorem field_be (before after : List Byte) (n v : Nat) :
    field (before ++ (be n v ++ after)) before.length n = v % 256 ^ n := by
  simp [field]

/-- The bytes of a number depend on its low bytes alone. -/
theorem be_congr {n v w : Nat} (h : v % 256 ^ n = w % 256 ^ n) : be n v = be n w := by
  induction n generalizing v w with
  | zero => rfl
  | succ n ih =>
    have high : v / 256 ^ n % 256 = w / 256 ^ n % 256 := by
      rw [← Nat.mod_mul_right_div_self, ← Nat.mod_mul_right_div_self, ← Nat.pow_succ, h]
    have low : v % 256 ^ n = w % 256 ^ n := by
      rw [← Nat.mod_mul_right_mod v (256 ^ n) 256, ← Nat.mod_mul_right_mod w (256 ^ n) 256,
        ← Nat.pow_succ, h]
    have head : BitVec.ofNat 8 (v / 256 ^ n) = BitVec.ofNat 8 (w / 256 ^ n) :=
      BitVec.eq_of_toNat_eq (by simpa using high)
    simp only [be, ih low, head]

theorem readBytes_lt (l : List Byte) : readBytes l < 256 ^ l.length := by
  induction l with
  | nil => simp [readBytes]
  | cons b l ih =>
    have h : b.toNat + 1 ≤ 256 := b.isLt
    have := Nat.mul_le_mul_right (256 ^ l.length) h
    rw [readBytes_cons, List.length_cons, Nat.pow_succ]; linarith

/-- The bytes of the number some bytes carry are those bytes. -/
theorem be_readBytes (l : List Byte) : be l.length (readBytes l) = l := by
  induction l with
  | nil => rfl
  | cons b l ih =>
    have hp : 0 < 256 ^ l.length := by positivity
    rw [readBytes_cons, List.length_cons, be, Nat.mul_comm, Nat.mul_add_div hp,
      Nat.div_eq_of_lt (readBytes_lt l), be_congr (w := readBytes l) (by simp), ih]
    simp

/-- The bytes of a field are the bytes it was read from. -/
theorem be_field (b : List Byte) (i n : Nat) (h : i + n ≤ b.length) :
    be n (field b i n) = (b.drop i).take n := by
  have := be_readBytes ((b.drop i).take n)
  rwa [List.length_take, List.length_drop, Nat.min_eq_left (by omega)] at this

/-- A field is below the number its bytes can count to. -/
theorem field_lt (b : List Byte) (i n : Nat) : field b i n < 256 ^ n :=
  lt_of_lt_of_le (readBytes_lt _) (Nat.pow_le_pow_right (by norm_num) (by simp))

/-- A body of one byte is its address, slot or id field. -/
@[simp] theorem field_single (b : Byte) : field [b] 0 1 = b.toNat := by simp [field, readBytes]

/-- An id field of two bytes. -/
@[simp] theorem field_id (id : BitVec 16) : field (be 2 id.toNat) 0 2 = id.toNat := by
  have h := field_be [] [] 2 id.toNat
  simp only [List.nil_append, List.append_nil, List.length_nil] at h
  rw [h]; exact Nat.mod_eq_of_lt id.isLt

/-- The CRC of no byte is its initial value (R154). -/
@[simp] theorem crc16_nil : crc16 [] = 0xFFFF#16 := rfl

end Sys2Proof.Machine
end

