-- ==== Sys2Proof/Laws/Fleet.lean ====
section
/-! SUPPORT. The Fleet Table: reading an entry after a write, a vacating or a change of every record. -/

namespace Sys2Proof.Machine

/-- Reading an entry after a write: the record written at its address, any other entry as it was. -/
theorem Fleet.get_put (f : Fleet) (a b : Nat) (u : UnitRecord) :
    Fleet.get (Fleet.put f a u) b = if b = a then some u else Fleet.get f b := by
  induction f with
  | nil => simp [Fleet.put, Fleet.get]
  | cons e rest ih =>
    obtain ⟨c, v⟩ := e
    by_cases hac : a = c
    · subst hac; simp only [Fleet.put, if_true, Fleet.get]; split <;> rfl
    · by_cases hlt : a < c
      · simp only [Fleet.put, if_neg hac, if_pos hlt, Fleet.get]
      · simp only [Fleet.put, if_neg hac, if_neg hlt, Fleet.get, ih]
        by_cases hbc : b = c
        · subst hbc; simp [Ne.symm hac]
        · simp [hbc]

@[simp] theorem Fleet.get_put_self (f : Fleet) (a : Nat) (u : UnitRecord) :
    Fleet.get (Fleet.put f a u) a = some u := by simp [Fleet.get_put]

theorem Fleet.get_put_ne (f : Fleet) {a b : Nat} (u : UnitRecord) (h : b ≠ a) :
    Fleet.get (Fleet.put f a u) b = Fleet.get f b := by simp [Fleet.get_put, h]

/-- Reading an entry after a vacating: none at its address, any other entry as it was. -/
theorem Fleet.get_erase (f : Fleet) (a b : Nat) :
    Fleet.get (Fleet.erase f a) b = if b = a then none else Fleet.get f b := by
  induction f with
  | nil => simp [Fleet.erase, Fleet.get]
  | cons e rest ih =>
    obtain ⟨c, v⟩ := e
    simp only [Fleet.erase, List.filter_cons, Fleet.get] at ih ⊢
    by_cases hca : c = a
    · subst hca
      simp only [bne_self_eq_false, Bool.false_eq_true, if_false, ih]
      split <;> simp_all
    · have : (c != a) = true := by simpa using hca
      simp only [this, if_true, Fleet.get, ih]
      by_cases hbc : b = c
      · subst hbc; simp [hca]
      · simp [hbc]

/-- Reading an entry after every record was changed. -/
@[simp] theorem Fleet.get_mapUnits (f : Fleet) (g : UnitRecord → UnitRecord) (a : Nat) :
    Fleet.get (Fleet.mapUnits f g) a = (Fleet.get f a).map g := by
  induction f with
  | nil => rfl
  | cons e rest ih =>
    obtain ⟨c, v⟩ := e
    simp only [Fleet.mapUnits, List.map_cons, Fleet.get] at ih ⊢
    split <;> simp [ih]

@[simp] theorem Fleet.mapUnits_addresses (f : Fleet) (g : UnitRecord → UnitRecord) :
    (Fleet.mapUnits f g).map Prod.fst = f.map Prod.fst := by simp [Fleet.mapUnits]

/-- A record found in the table stands in it at its address. -/
theorem Fleet.mem_of_get {f : Fleet} {a : Nat} {u : UnitRecord} (h : Fleet.get f a = some u) :
    (a, u) ∈ f := by
  induction f with
  | nil => cases h
  | cons e rest ih =>
    obtain ⟨c, v⟩ := e
    simp only [Fleet.get] at h
    split at h
    · cases h; simp_all
    · exact List.mem_cons_of_mem _ (ih h)

/-- In a table whose addresses rise, an entry is found at its address. -/
theorem Fleet.get_of_mem {f : Fleet} {a : Nat} {u : UnitRecord}
    (hs : (f.map Prod.fst).Pairwise (· < ·)) (h : (a, u) ∈ f) : Fleet.get f a = some u := by
  induction f with
  | nil => cases h
  | cons e rest ih =>
    obtain ⟨c, v⟩ := e
    simp only [List.map_cons, List.pairwise_cons] at hs
    simp only [Fleet.get]
    rcases List.mem_cons.mp h with h | h
    · cases h; simp
    · have : c < a := hs.1 a (List.mem_map.mpr ⟨(a, u), h, rfl⟩)
      rw [if_neg (by omega)]; exact ih hs.2 h

end Sys2Proof.Machine
end

