-- ==== Sys2Proof/Laws/State.lean ====
section
/-! SUPPORT. The updates of the state, field by field: what each leaves as it was. -/

namespace Sys2Proof.Machine

variable (s : State) (port : Port) (x : PortState)

/-! ### One port -/

@[simp] theorem State.setPort_powered : (s.setPort port x).powered = s.powered := by cases port <;> rfl
@[simp] theorem State.setPort_resetLow : (s.setPort port x).resetLow = s.resetLow := by cases port <;> rfl
@[simp] theorem State.setPort_straps : (s.setPort port x).straps = s.straps := by cases port <;> rfl
@[simp] theorem State.setPort_time : (s.setPort port x).time = s.time := by cases port <;> rfl
@[simp] theorem State.setPort_clock : (s.setPort port x).clock = s.clock := by cases port <;> rfl
@[simp] theorem State.setPort_book : (s.setPort port x).book = s.book := by cases port <;> rfl
@[simp] theorem State.setPort_fleet : (s.setPort port x).fleet = s.fleet := by cases port <;> rfl
@[simp] theorem State.setPort_plan : (s.setPort port x).plan = s.plan := by cases port <;> rfl
@[simp] theorem State.setPort_avail : (s.setPort port x).avail = s.avail := by cases port <;> rfl
@[simp] theorem State.setPort_marked : (s.setPort port x).marked = s.marked := by cases port <;> rfl
@[simp] theorem State.setPort_meter : (s.setPort port x).meter = s.meter := by cases port <;> rfl
@[simp] theorem State.setPort_analog : (s.setPort port x).analog = s.analog := by cases port <;> rfl
@[simp] theorem State.setPort_thermal : (s.setPort port x).thermal = s.thermal := by cases port <;> rfl
@[simp] theorem State.setPort_levels : (s.setPort port x).levels = s.levels := by cases port <;> rfl
@[simp] theorem State.setPort_apportioner : (s.setPort port x).apportioner = s.apportioner := by cases port <;> rfl
@[simp] theorem State.setPort_link : (s.setPort port x).link = s.link := by cases port <;> rfl
@[simp] theorem State.setPort_delivery : (s.setPort port x).delivery = s.delivery := by cases port <;> rfl
@[simp] theorem State.setPort_profile : (s.setPort port x).profile = s.profile := by cases port <;> rfl
@[simp] theorem State.setPort_store : (s.setPort port x).store = s.store := by cases port <;> rfl
@[simp] theorem State.setPort_pending : (s.setPort port x).pending = s.pending := by cases port <;> rfl

@[simp] theorem State.setPort_running : (s.setPort port x).running = s.running := by cases port <;> rfl

@[simp] theorem State.setPort_nominal : (s.setPort port x).nominal = s.nominal := by cases port <;> rfl

@[simp] theorem State.setPort_market : (s.setPort .market x).market = x := rfl

@[simp] theorem State.setPort_operator : (s.setPort .operator x).operator = x := rfl

@[simp] theorem State.setPort_market_operator : (s.setPort .market x).operator = s.operator := rfl

@[simp] theorem State.setPort_operator_market : (s.setPort .operator x).market = s.market := rfl

@[simp] theorem State.port_market : s.port .market = s.market := rfl

@[simp] theorem State.port_operator : s.port .operator = s.operator := rfl

@[simp] theorem State.setPort_port : (s.setPort port x).port port = x := by cases port <;> rfl

theorem State.setPort_port_ne {q : Port} (h : q ≠ port) : (s.setPort port x).port q = s.port q := by
  cases port <;> cases q <;> first | rfl | exact absurd rfl h

@[simp] theorem State.setPort_setPort (y : PortState) :
    (s.setPort port x).setPort port y = s.setPort port y := by cases port <;> rfl

@[simp] theorem State.setPort_self : s.setPort port (s.port port) = s := by cases port <;> rfl

/-- The queue is no part of a port. -/
theorem State.setPort_with_pending (q : List Instr) :
    ({ s with pending := q } : State).setPort port x = { s.setPort port x with pending := q } := by
  cases port <;> rfl

/-! ### The records and the clock -/

@[simp] theorem State.setRecords_powered (l : List Commitment) : (s.setRecords l).powered = s.powered := rfl
@[simp] theorem State.setRecords_resetLow (l : List Commitment) : (s.setRecords l).resetLow = s.resetLow := rfl
@[simp] theorem State.setRecords_straps (l : List Commitment) : (s.setRecords l).straps = s.straps := rfl
@[simp] theorem State.setRecords_time (l : List Commitment) : (s.setRecords l).time = s.time := rfl
@[simp] theorem State.setRecords_clock (l : List Commitment) : (s.setRecords l).clock = s.clock := rfl
@[simp] theorem State.setRecords_fleet (l : List Commitment) : (s.setRecords l).fleet = s.fleet := rfl
@[simp] theorem State.setRecords_plan (l : List Commitment) : (s.setRecords l).plan = s.plan := rfl
@[simp] theorem State.setRecords_avail (l : List Commitment) : (s.setRecords l).avail = s.avail := rfl
@[simp] theorem State.setRecords_marked (l : List Commitment) : (s.setRecords l).marked = s.marked := rfl
@[simp] theorem State.setRecords_meter (l : List Commitment) : (s.setRecords l).meter = s.meter := rfl
@[simp] theorem State.setRecords_analog (l : List Commitment) : (s.setRecords l).analog = s.analog := rfl
@[simp] theorem State.setRecords_thermal (l : List Commitment) : (s.setRecords l).thermal = s.thermal := rfl
@[simp] theorem State.setRecords_levels (l : List Commitment) : (s.setRecords l).levels = s.levels := rfl
@[simp] theorem State.setRecords_apportioner (l : List Commitment) : (s.setRecords l).apportioner = s.apportioner := rfl
@[simp] theorem State.setRecords_link (l : List Commitment) : (s.setRecords l).link = s.link := rfl
@[simp] theorem State.setRecords_delivery (l : List Commitment) : (s.setRecords l).delivery = s.delivery := rfl
@[simp] theorem State.setRecords_market (l : List Commitment) : (s.setRecords l).market = s.market := rfl
@[simp] theorem State.setRecords_operator (l : List Commitment) : (s.setRecords l).operator = s.operator := rfl
@[simp] theorem State.setRecords_profile (l : List Commitment) : (s.setRecords l).profile = s.profile := rfl
@[simp] theorem State.setRecords_store (l : List Commitment) : (s.setRecords l).store = s.store := rfl
@[simp] theorem State.setRecords_pending (l : List Commitment) : (s.setRecords l).pending = s.pending := rfl

@[simp] theorem State.setUnit_powered (a : Nat) (u : UnitRecord) : (s.setUnit a u).powered = s.powered := rfl
@[simp] theorem State.setUnit_resetLow (a : Nat) (u : UnitRecord) : (s.setUnit a u).resetLow = s.resetLow := rfl
@[simp] theorem State.setUnit_straps (a : Nat) (u : UnitRecord) : (s.setUnit a u).straps = s.straps := rfl
@[simp] theorem State.setUnit_time (a : Nat) (u : UnitRecord) : (s.setUnit a u).time = s.time := rfl
@[simp] theorem State.setUnit_clock (a : Nat) (u : UnitRecord) : (s.setUnit a u).clock = s.clock := rfl
@[simp] theorem State.setUnit_book (a : Nat) (u : UnitRecord) : (s.setUnit a u).book = s.book := rfl
@[simp] theorem State.setUnit_plan (a : Nat) (u : UnitRecord) : (s.setUnit a u).plan = s.plan := rfl
@[simp] theorem State.setUnit_avail (a : Nat) (u : UnitRecord) : (s.setUnit a u).avail = s.avail := rfl
@[simp] theorem State.setUnit_marked (a : Nat) (u : UnitRecord) : (s.setUnit a u).marked = s.marked := rfl
@[simp] theorem State.setUnit_meter (a : Nat) (u : UnitRecord) : (s.setUnit a u).meter = s.meter := rfl
@[simp] theorem State.setUnit_analog (a : Nat) (u : UnitRecord) : (s.setUnit a u).analog = s.analog := rfl
@[simp] theorem State.setUnit_thermal (a : Nat) (u : UnitRecord) : (s.setUnit a u).thermal = s.thermal := rfl
@[simp] theorem State.setUnit_levels (a : Nat) (u : UnitRecord) : (s.setUnit a u).levels = s.levels := rfl
@[simp] theorem State.setUnit_apportioner (a : Nat) (u : UnitRecord) : (s.setUnit a u).apportioner = s.apportioner := rfl
@[simp] theorem State.setUnit_link (a : Nat) (u : UnitRecord) : (s.setUnit a u).link = s.link := rfl
@[simp] theorem State.setUnit_delivery (a : Nat) (u : UnitRecord) : (s.setUnit a u).delivery = s.delivery := rfl
@[simp] theorem State.setUnit_market (a : Nat) (u : UnitRecord) : (s.setUnit a u).market = s.market := rfl
@[simp] theorem State.setUnit_operator (a : Nat) (u : UnitRecord) : (s.setUnit a u).operator = s.operator := rfl
@[simp] theorem State.setUnit_profile (a : Nat) (u : UnitRecord) : (s.setUnit a u).profile = s.profile := rfl
@[simp] theorem State.setUnit_store (a : Nat) (u : UnitRecord) : (s.setUnit a u).store = s.store := rfl
@[simp] theorem State.setUnit_pending (a : Nat) (u : UnitRecord) : (s.setUnit a u).pending = s.pending := rfl

@[simp] theorem State.setClock_powered (slot second : Nat) : (s.setClock slot second).powered = s.powered := rfl
@[simp] theorem State.setClock_resetLow (slot second : Nat) : (s.setClock slot second).resetLow = s.resetLow := rfl
@[simp] theorem State.setClock_straps (slot second : Nat) : (s.setClock slot second).straps = s.straps := rfl
@[simp] theorem State.setClock_time (slot second : Nat) : (s.setClock slot second).time = s.time := rfl
@[simp] theorem State.setClock_book (slot second : Nat) : (s.setClock slot second).book = s.book := rfl
@[simp] theorem State.setClock_fleet (slot second : Nat) : (s.setClock slot second).fleet = s.fleet := rfl
@[simp] theorem State.setClock_plan (slot second : Nat) : (s.setClock slot second).plan = s.plan := rfl
@[simp] theorem State.setClock_avail (slot second : Nat) : (s.setClock slot second).avail = s.avail := rfl
@[simp] theorem State.setClock_marked (slot second : Nat) : (s.setClock slot second).marked = s.marked := rfl
@[simp] theorem State.setClock_meter (slot second : Nat) : (s.setClock slot second).meter = s.meter := rfl
@[simp] theorem State.setClock_analog (slot second : Nat) : (s.setClock slot second).analog = s.analog := rfl
@[simp] theorem State.setClock_thermal (slot second : Nat) : (s.setClock slot second).thermal = s.thermal := rfl
@[simp] theorem State.setClock_levels (slot second : Nat) : (s.setClock slot second).levels = s.levels := rfl
@[simp] theorem State.setClock_apportioner (slot second : Nat) : (s.setClock slot second).apportioner = s.apportioner := rfl
@[simp] theorem State.setClock_link (slot second : Nat) : (s.setClock slot second).link = s.link := rfl
@[simp] theorem State.setClock_delivery (slot second : Nat) : (s.setClock slot second).delivery = s.delivery := rfl
@[simp] theorem State.setClock_market (slot second : Nat) : (s.setClock slot second).market = s.market := rfl
@[simp] theorem State.setClock_operator (slot second : Nat) : (s.setClock slot second).operator = s.operator := rfl
@[simp] theorem State.setClock_profile (slot second : Nat) : (s.setClock slot second).profile = s.profile := rfl
@[simp] theorem State.setClock_store (slot second : Nat) : (s.setClock slot second).store = s.store := rfl
@[simp] theorem State.setClock_pending (slot second : Nat) : (s.setClock slot second).pending = s.pending := rfl

@[simp] theorem State.setRecords_records (l : List Commitment) : (s.setRecords l).book.records = l := rfl

@[simp] theorem State.setUnit_table (a : Nat) (u : UnitRecord) :
    (s.setUnit a u).fleet = Fleet.put s.fleet a u := rfl

@[simp] theorem State.setClock_value (slot second : Nat) :
    (s.setClock slot second).clock = ⟨true, slot, second, 0⟩ := rfl

/-! ### Postings -/

@[simp] theorem State.postOn_powered (k : Notice) : (s.postOn port k).powered = s.powered := by
  unfold State.postOn; split <;> simp

@[simp] theorem State.postOn_resetLow (k : Notice) : (s.postOn port k).resetLow = s.resetLow := by
  unfold State.postOn; split <;> simp

@[simp] theorem State.postOn_straps (k : Notice) : (s.postOn port k).straps = s.straps := by
  unfold State.postOn; split <;> simp

@[simp] theorem State.postOn_time (k : Notice) : (s.postOn port k).time = s.time := by
  unfold State.postOn; split <;> simp

@[simp] theorem State.postOn_clock (k : Notice) : (s.postOn port k).clock = s.clock := by
  unfold State.postOn; split <;> simp

@[simp] theorem State.postOn_book (k : Notice) : (s.postOn port k).book = s.book := by
  unfold State.postOn; split <;> simp

@[simp] theorem State.postOn_fleet (k : Notice) : (s.postOn port k).fleet = s.fleet := by
  unfold State.postOn; split <;> simp

@[simp] theorem State.postOn_plan (k : Notice) : (s.postOn port k).plan = s.plan := by
  unfold State.postOn; split <;> simp

@[simp] theorem State.postOn_avail (k : Notice) : (s.postOn port k).avail = s.avail := by
  unfold State.postOn; split <;> simp

@[simp] theorem State.postOn_marked (k : Notice) : (s.postOn port k).marked = s.marked := by
  unfold State.postOn; split <;> simp

@[simp] theorem State.postOn_meter (k : Notice) : (s.postOn port k).meter = s.meter := by
  unfold State.postOn; split <;> simp

@[simp] theorem State.postOn_analog (k : Notice) : (s.postOn port k).analog = s.analog := by
  unfold State.postOn; split <;> simp

@[simp] theorem State.postOn_thermal (k : Notice) : (s.postOn port k).thermal = s.thermal := by
  unfold State.postOn; split <;> simp

@[simp] theorem State.postOn_levels (k : Notice) : (s.postOn port k).levels = s.levels := by
  unfold State.postOn; split <;> simp

@[simp] theorem State.postOn_apportioner (k : Notice) : (s.postOn port k).apportioner = s.apportioner := by
  unfold State.postOn; split <;> simp

@[simp] theorem State.postOn_link (k : Notice) : (s.postOn port k).link = s.link := by
  unfold State.postOn; split <;> simp

@[simp] theorem State.postOn_delivery (k : Notice) : (s.postOn port k).delivery = s.delivery := by
  unfold State.postOn; split <;> simp

@[simp] theorem State.postOn_profile (k : Notice) : (s.postOn port k).profile = s.profile := by
  unfold State.postOn; split <;> simp

@[simp] theorem State.postOn_store (k : Notice) : (s.postOn port k).store = s.store := by
  unfold State.postOn; split <;> simp

@[simp] theorem State.postOn_pending (k : Notice) : (s.postOn port k).pending = s.pending := by
  unfold State.postOn; split <;> simp

@[simp] theorem State.post_powered (k : Notice) : (s.post k).powered = s.powered := by simp [State.post]
@[simp] theorem State.post_resetLow (k : Notice) : (s.post k).resetLow = s.resetLow := by simp [State.post]
@[simp] theorem State.post_straps (k : Notice) : (s.post k).straps = s.straps := by simp [State.post]
@[simp] theorem State.post_time (k : Notice) : (s.post k).time = s.time := by simp [State.post]
@[simp] theorem State.post_clock (k : Notice) : (s.post k).clock = s.clock := by simp [State.post]
@[simp] theorem State.post_book (k : Notice) : (s.post k).book = s.book := by simp [State.post]
@[simp] theorem State.post_fleet (k : Notice) : (s.post k).fleet = s.fleet := by simp [State.post]
@[simp] theorem State.post_plan (k : Notice) : (s.post k).plan = s.plan := by simp [State.post]
@[simp] theorem State.post_avail (k : Notice) : (s.post k).avail = s.avail := by simp [State.post]
@[simp] theorem State.post_marked (k : Notice) : (s.post k).marked = s.marked := by simp [State.post]
@[simp] theorem State.post_meter (k : Notice) : (s.post k).meter = s.meter := by simp [State.post]
@[simp] theorem State.post_analog (k : Notice) : (s.post k).analog = s.analog := by simp [State.post]
@[simp] theorem State.post_thermal (k : Notice) : (s.post k).thermal = s.thermal := by simp [State.post]
@[simp] theorem State.post_levels (k : Notice) : (s.post k).levels = s.levels := by simp [State.post]
@[simp] theorem State.post_apportioner (k : Notice) : (s.post k).apportioner = s.apportioner := by simp [State.post]
@[simp] theorem State.post_link (k : Notice) : (s.post k).link = s.link := by simp [State.post]
@[simp] theorem State.post_delivery (k : Notice) : (s.post k).delivery = s.delivery := by simp [State.post]
@[simp] theorem State.post_profile (k : Notice) : (s.post k).profile = s.profile := by simp [State.post]
@[simp] theorem State.post_store (k : Notice) : (s.post k).store = s.store := by simp [State.post]
@[simp] theorem State.post_pending (k : Notice) : (s.post k).pending = s.pending := by simp [State.post]

@[simp] theorem State.postIf_powered (c : Bool) (k : Notice) : (s.postIf c k).powered = s.powered := by
  unfold State.postIf; split <;> simp

@[simp] theorem State.postIf_resetLow (c : Bool) (k : Notice) : (s.postIf c k).resetLow = s.resetLow := by
  unfold State.postIf; split <;> simp

@[simp] theorem State.postIf_straps (c : Bool) (k : Notice) : (s.postIf c k).straps = s.straps := by
  unfold State.postIf; split <;> simp

@[simp] theorem State.postIf_time (c : Bool) (k : Notice) : (s.postIf c k).time = s.time := by
  unfold State.postIf; split <;> simp

@[simp] theorem State.postIf_clock (c : Bool) (k : Notice) : (s.postIf c k).clock = s.clock := by
  unfold State.postIf; split <;> simp

@[simp] theorem State.postIf_book (c : Bool) (k : Notice) : (s.postIf c k).book = s.book := by
  unfold State.postIf; split <;> simp

@[simp] theorem State.postIf_fleet (c : Bool) (k : Notice) : (s.postIf c k).fleet = s.fleet := by
  unfold State.postIf; split <;> simp

@[simp] theorem State.postIf_plan (c : Bool) (k : Notice) : (s.postIf c k).plan = s.plan := by
  unfold State.postIf; split <;> simp

@[simp] theorem State.postIf_avail (c : Bool) (k : Notice) : (s.postIf c k).avail = s.avail := by
  unfold State.postIf; split <;> simp

@[simp] theorem State.postIf_marked (c : Bool) (k : Notice) : (s.postIf c k).marked = s.marked := by
  unfold State.postIf; split <;> simp

@[simp] theorem State.postIf_meter (c : Bool) (k : Notice) : (s.postIf c k).meter = s.meter := by
  unfold State.postIf; split <;> simp

@[simp] theorem State.postIf_analog (c : Bool) (k : Notice) : (s.postIf c k).analog = s.analog := by
  unfold State.postIf; split <;> simp

@[simp] theorem State.postIf_thermal (c : Bool) (k : Notice) : (s.postIf c k).thermal = s.thermal := by
  unfold State.postIf; split <;> simp

@[simp] theorem State.postIf_levels (c : Bool) (k : Notice) : (s.postIf c k).levels = s.levels := by
  unfold State.postIf; split <;> simp

@[simp] theorem State.postIf_apportioner (c : Bool) (k : Notice) : (s.postIf c k).apportioner = s.apportioner := by
  unfold State.postIf; split <;> simp

@[simp] theorem State.postIf_link (c : Bool) (k : Notice) : (s.postIf c k).link = s.link := by
  unfold State.postIf; split <;> simp

@[simp] theorem State.postIf_delivery (c : Bool) (k : Notice) : (s.postIf c k).delivery = s.delivery := by
  unfold State.postIf; split <;> simp

@[simp] theorem State.postIf_profile (c : Bool) (k : Notice) : (s.postIf c k).profile = s.profile := by
  unfold State.postIf; split <;> simp

@[simp] theorem State.postIf_store (c : Bool) (k : Notice) : (s.postIf c k).store = s.store := by
  unfold State.postIf; split <;> simp

@[simp] theorem State.postIf_pending (c : Bool) (k : Notice) : (s.postIf c k).pending = s.pending := by
  unfold State.postIf; split <;> simp

@[simp] theorem State.postIf_true (k : Notice) : s.postIf true k = s.post k := rfl

@[simp] theorem State.postIf_false (k : Notice) : s.postIf false k = s := rfl

@[simp] theorem State.post_running (k : Notice) : (s.post k).running = s.running := by
  simp [State.running]

/-- A posting moves the two ports and nothing else. -/
theorem State.post_eq (k : Notice) :
    s.post k = { s with market := (s.post k).market, operator := (s.post k).operator } := by
  have h : ∀ t : State, t = ⟨t.powered, t.resetLow, t.straps, t.time, t.clock, t.book, t.fleet, t.plan,
      t.avail, t.marked, t.meter, t.analog, t.thermal, t.levels, t.apportioner, t.link, t.delivery,
      t.market, t.operator, t.profile, t.store, t.pending⟩ := fun _ => rfl
  rw [h (s.post k)]; simp

/-! ### A profile put in force -/

@[simp] theorem State.putProfile_powered (p : Profile) : (s.putProfile p).powered = s.powered := rfl
@[simp] theorem State.putProfile_resetLow (p : Profile) : (s.putProfile p).resetLow = s.resetLow := rfl
@[simp] theorem State.putProfile_straps (p : Profile) : (s.putProfile p).straps = s.straps := rfl
@[simp] theorem State.putProfile_time (p : Profile) : (s.putProfile p).time = s.time := rfl
@[simp] theorem State.putProfile_clock (p : Profile) : (s.putProfile p).clock = s.clock := rfl
@[simp] theorem State.putProfile_book (p : Profile) : (s.putProfile p).book = s.book := rfl
@[simp] theorem State.putProfile_fleet (p : Profile) : (s.putProfile p).fleet = s.fleet := rfl
@[simp] theorem State.putProfile_plan (p : Profile) : (s.putProfile p).plan = s.plan := rfl
@[simp] theorem State.putProfile_avail (p : Profile) : (s.putProfile p).avail = s.avail := rfl
@[simp] theorem State.putProfile_marked (p : Profile) : (s.putProfile p).marked = s.marked := rfl
@[simp] theorem State.putProfile_meter (p : Profile) : (s.putProfile p).meter = s.meter := rfl
@[simp] theorem State.putProfile_analog (p : Profile) : (s.putProfile p).analog = s.analog := rfl
@[simp] theorem State.putProfile_thermal (p : Profile) : (s.putProfile p).thermal = s.thermal := rfl
@[simp] theorem State.putProfile_levels (p : Profile) : (s.putProfile p).levels = s.levels := rfl
@[simp] theorem State.putProfile_apportioner (p : Profile) : (s.putProfile p).apportioner = s.apportioner := rfl
@[simp] theorem State.putProfile_link (p : Profile) : (s.putProfile p).link = s.link := rfl
@[simp] theorem State.putProfile_delivery (p : Profile) : (s.putProfile p).delivery = s.delivery := rfl
@[simp] theorem State.putProfile_store (p : Profile) : (s.putProfile p).store = s.store := rfl
@[simp] theorem State.putProfile_pending (p : Profile) : (s.putProfile p).pending = s.pending := rfl
@[simp] theorem State.putProfile_profile (p : Profile) : (s.putProfile p).profile = p := rfl

end Sys2Proof.Machine
end

