-- ==== Sys2Proof/Laws/Ops.lean ====
section
/-! SUPPORT. The shared operations, once each: running, profiles, the pulse timer, entering and leaving the
book. -/

namespace Sys2Proof.Machine

/-! ### Running (R172) -/

/-- A running part takes the event. -/
theorem whenRunning_running (f : State → State) {s : State} (h : s.running = true) :
    whenRunning f s = .next (f s) := by simp [whenRunning, h]

/-- A held part takes no event. -/
theorem whenRunning_held (f : State → State) {s : State} (h : s.running = false) :
    whenRunning f s = .next s := by simp [whenRunning, h]

/-! ### Profiles -/

/-- Reading a parameter after one is replaced. -/
theorem Profile.get_put (p : Profile) (i j : ParamId) (v : Int) :
    (p.put i v).get j = if i.index = j.index then v else p.get j := by
  simp only [Profile.get, Profile.put]
  by_cases h : i.index = j.index
  · simp [h]
  · rw [if_neg h]
    exact Vector.getElem_set_ne _ _ (by simpa [Fin.ext_iff] using h)

/-- Two parameters at one place are one parameter (Table 11-2). -/
theorem ParamId.index_injective (i j : ParamId) (h : i.index = j.index) : i = j := by
  have at_ : ∀ k : ParamId, ParamId.all[k.index.val]? = some k := by intro k; cases k <;> rfl
  exact Option.some.inj ((at_ i).symm.trans (h ▸ at_ j))

@[simp] theorem Profile.get_put_self (p : Profile) (i : ParamId) (v : Int) : (p.put i v).get i = v := by
  simp [Profile.get_put]

theorem Profile.get_put_ne (p : Profile) {i j : ParamId} (v : Int) (h : j ≠ i) :
    (p.put i v).get j = p.get j := by
  rw [Profile.get_put, if_neg fun e => h (ParamId.index_injective _ _ e).symm]

/-! ### The attention lines (R165) -/

/-- The 1 ms timer moves the line, its low time and the count, and nothing else of the port. -/
theorem PortState.pulseTimer_eq (x : PortState) :
    ∃ y, x.pulseTimer = y ∧ y = { x with line := y.line, gap := y.gap, owed := y.owed } := by
  refine ⟨_, rfl, ?_⟩
  unfold PortState.pulseTimer; split
  · rfl
  · split
    · split <;> rfl
    · rfl

/-- A judgement moves the line, its low time and the count, and nothing else of the port. -/
theorem PortState.rejudge_eq (x : PortState) (old new : Bool) (enables : NoticeSet) :
    ∃ y, x.rejudge old new enables = y ∧
      y = { x with line := y.line, gap := y.gap, owed := y.owed } := by
  refine ⟨_, rfl, ?_⟩
  cases old <;> cases new <;> rfl

/-! ### Entering the book (R5, R10) -/

/-- Keys compare on the start slot first (1.2). -/
theorem keyLess_iff (a b : Key) : keyLess a b = true ↔ a.1 < b.1 ∨ (a.1 = b.1 ∧ a.2 < b.2) := by
  simp [keyLess]

/-- A new record of the book parts it in two: those its key follows, and those it precedes (R5). -/
theorem insertByKey_splits (c : Commitment) (l : List Commitment)
    (sorted : l.Pairwise fun a b => keyLess a.key b.key = true) :
    ∃ before after, l = before ++ after ∧ insertByKey c l = before ++ c :: after ∧
      (∀ d ∈ before, keyLess c.key d.key = false) ∧ ∀ d ∈ after, keyLess c.key d.key = true := by
  induction l with
  | nil => exact ⟨[], [], rfl, rfl, by simp, by simp⟩
  | cons d l ih =>
    obtain ⟨first, rest⟩ := List.pairwise_cons.mp sorted
    by_cases hk : keyLess c.key d.key = true
    · refine ⟨[], d :: l, rfl, by simp [insertByKey, hk], by simp, fun e he => ?_⟩
      rcases List.mem_cons.mp he with rfl | he
      · exact hk
      · have h := first e he
        rw [keyLess_iff] at *; omega
    · obtain ⟨before, after, whole, inserted, low, high⟩ := ih rest
      refine ⟨d :: before, after, by simp [whole], by simp [insertByKey, hk, inserted], ?_, high⟩
      exact List.forall_mem_cons.mpr ⟨by simpa using hk, low⟩

/-! ### Leaving the book (R19, R47, R55) -/

/-- What a commitment's leaving does: its record, its sums and its mark go, and BOOK is posted. -/
theorem State.removeCommitment_eq (s : State) (c : Commitment) :
    ∃ t, s.removeCommitment c = t ∧
      t = { s with
        book := { s.book with records := s.book.records.filter fun d => d.id != c.id }
        plan := s.plan.mapRows (PlanRow.uncommit c)
        marked := s.marked.filter fun i => i != c.id
        market := t.market, operator := t.operator } := by
  refine ⟨_, rfl, ?_⟩
  unfold State.removeCommitment
  generalize h : ({ s.setRecords _ with plan := _, marked := _ } : State) = u
  rw [State.post_eq u .book]
  subst h; rfl

/-- The sums a row holds after its part of a commitment is taken away again. -/
@[simp] theorem PlanRow.uncommit_commit (c : Commitment) (r : PlanRow) :
    (r.commit c).uncommit c = r := by
  unfold PlanRow.commit PlanRow.uncommit
  by_cases h : c.coversRow r = true
  · have h' : c.coversRow { r with
        committed := r.committed.add c.capacity, required := r.required.add c.requirement } = true := h
    rw [if_pos h, if_pos h']
    simp [Sides.add, Sides.sub]
  · simp [h]

@[simp] theorem Plan.mapRows_all (p : Plan) (f : PlanRow → PlanRow) :
    (p.mapRows f).all = p.all.map f := by
  cases h : p.horizon <;> simp [Plan.all, Plan.mapRows, h]

end Sys2Proof.Machine
end

