-- ==== Sys2Proof/Laws/Frames.lean ====
section
/-! SUPPORT. What the blocks' shared events write, once each; everything else of the part is as it was. -/

namespace Sys2Proof.Machine

/-- A posting under a condition moves the two ports and nothing else. -/
theorem State.postIf_eq (s : State) (c : Bool) (k : Notice) :
    ∃ x y, s.postIf c k = { s with market := x, operator := y } := by
  cases c
  · exact ⟨s.market, s.operator, rfl⟩
  · exact ⟨_, _, s.post_eq k⟩

/-- A measurement handed out writes the records of the book (R67, R84). -/
theorem State.takeMeasurement_eq (s : State) (f : Nat) :
    s.takeMeasurement f = { s with book := { s.book with
      records := s.book.records.map (Commitment.takeMeasurement s.time s.nominal f) } } := rfl

/-- A change of the meter: the meter is as given, FREQ goes to the ports on a change of state, and the
records lose their confirmation counts where VALID is left (R67, R68). -/
theorem State.moveMeter_eq (s : State) (m : Meter) :
    ∃ t, s.moveMeter m = t ∧
      t = { s with meter := m, book := t.book, market := t.market, operator := t.operator } ∧
      (m.state = s.meter.state → t = { s with meter := m }) := by
  unfold State.moveMeter
  obtain ⟨x, y, e⟩ := State.postIf_eq { s with meter := m } (m.state != s.meter.state) .freq
  refine ⟨_, rfl, ?_, fun h => ?_⟩
  · simp only [e]; split <;> rfl
  · have hl : ∀ z : MeterState, (z == .valid && (z == .invalid || z == .lost)) = false := by
      intro z; cases z <;> rfl
    simp only [h, hl, Bool.false_eq_true, if_false, bne_self_eq_false, State.postIf]

/-- The availability evaluation writes the live headrooms, the availability record, the rows, the marks
and the marked set, and posts RISK (R43). -/
theorem State.evaluate_eq (s : State) :
    ∃ t, s.evaluate = t ∧
      t = { s with
        fleet := t.fleet, avail := t.avail, plan := t.plan, book := t.book, marked := t.marked
        market := t.market, operator := t.operator } ∧
      t.fleet = Fleet.mapUnits s.fleet
        (fun u => { u with live := liveHeadroom s.profile s.plan.currentSlot u }) ∧
      t.book = { s.book with records := t.book.records } := by
  unfold State.evaluate
  obtain ⟨x, y, e⟩ := State.postIf_eq s.writeHeadroom.formAvailability.refreshPlan.markAfresh
    (!sameIds s.marked s.writeHeadroom.formAvailability.refreshPlan.markAfresh.marked) .risk
  refine ⟨_, rfl, ?_⟩
  simp only [e]
  unfold State.refreshPlan
  split <;> exact ⟨rfl, rfl, rfl⟩

/-- The Delivery Monitor's taking of a round completion writes the delivered sum alone (R142). -/
theorem State.updateDelivered_eq (s : State) :
    s.updateDelivered = { s with delivery := { s.delivery with
      episode := s.delivery.episode.map fun e => { e with delivered := Fleet.delivered s.fleet } } } := by
  unfold State.updateDelivered
  cases h : s.delivery.episode
  · simp only [Option.map_none]; rw [← h]
  · rfl

/-- A failed visit writes one record and posts (R28 to R30). -/
theorem State.takeFailure_eq (s : State) (a : Nat) :
    ∃ t, s.takeFailure a = t ∧
      t = { s with fleet := t.fleet, market := t.market, operator := t.operator } ∧
      t.fleet = match Fleet.get s.fleet a with
        | none => s.fleet
        | some u => Fleet.put s.fleet a
            (u.failVisit (s.profile.nat .staleLimit) (s.profile.nat .lostLimit)) := by
  unfold State.takeFailure
  cases h : Fleet.get s.fleet a with
  | none => exact ⟨s, rfl, rfl, rfl⟩
  | some u =>
    refine ⟨_, rfl, ?_⟩
    simp only []
    obtain ⟨x, y, e⟩ := State.postIf_eq (s.setUnit a _) _ .test
    rw [e]
    obtain ⟨x', y', e'⟩ := State.postIf_eq { s.setUnit a _ with market := x, operator := y } _ .unit
    rw [e']
    exact ⟨rfl, rfl⟩

/-- A good report writes one record and posts (R27, R30, R31). -/
theorem State.takeReport_eq (s : State) (a : Nat) (carried : CarriedReport) :
    ∃ t, s.takeReport a carried = t ∧
      t = { s with fleet := t.fleet, market := t.market, operator := t.operator } ∧
      t.fleet = match Fleet.get s.fleet a with
        | none => s.fleet
        | some u => Fleet.put s.fleet a (u.takeReport carried) := by
  unfold State.takeReport
  cases h : Fleet.get s.fleet a with
  | none => exact ⟨s, rfl, rfl, rfl⟩
  | some u =>
    refine ⟨_, rfl, ?_⟩
    simp only []
    obtain ⟨x, y, e⟩ := State.postIf_eq (s.setUnit a _) _ .unit
    rw [e]
    exact ⟨rfl, rfl⟩

/-- The walk's next step takes the link alone, or completes the round (R126, R127). -/
theorem State.startWalk_eq (s : State) :
    ∃ l, s.startWalk = { s with link := l } := by
  unfold State.startWalk State.beginVisit State.pace
  split
  · split
    · exact ⟨s.link, rfl⟩
    · exact ⟨_, rfl⟩
  · exact ⟨_, rfl⟩

end Sys2Proof.Machine
end

