-- ==== Sys2Proof/Laws/Ports.lean ====
section
/-! SUPPORT. The ports: what a posting does to one, and how a request row answers. -/

namespace Sys2Proof.Machine

/-! ### Postings -/

/-- What a posting does to a port: nothing where the port does not carry the kind. -/
theorem State.post_port (s : State) (k : Notice) (port : Port) :
    (s.post k).port port =
      if hasNotice (carriedNotices port) k then
        (s.port port).post (s.profile.pulseMode port) (s.profile.enables port) k
      else s.port port := by
  cases port <;> simp only [State.post, State.postOn] <;> split <;> split <;> simp_all

/-- A posting touches the pending set and the line, its gap and its count. -/
theorem PortState.post_eq (x : PortState) (pulse : Bool) (enables : NoticeSet) (k : Notice) :
    ∃ y : PortState, x.post pulse enables k = y ∧
      y = { x with notices := y.notices, line := y.line, owed := y.owed } := by
  refine ⟨_, rfl, ?_⟩
  unfold PortState.post PortState.owePulse PortState.judgeLevel
  split
  · rfl
  · cases pulse <;> simp only [Bool.false_eq_true, if_false, if_true]
    split
    · split <;> rfl
    · rfl

@[simp] theorem PortState.post_service (x : PortState) (pulse : Bool) (enables : NoticeSet) (k : Notice) :
    (x.post pulse enables k).service = x.service := by
  obtain ⟨y, h, e⟩ := PortState.post_eq x pulse enables k; rw [h, e]

@[simp] theorem PortState.post_sending (x : PortState) (pulse : Bool) (enables : NoticeSet) (k : Notice) :
    (x.post pulse enables k).sending = x.sending := by
  obtain ⟨y, h, e⟩ := PortState.post_eq x pulse enables k; rw [h, e]

@[simp] theorem PortState.post_waiting (x : PortState) (pulse : Bool) (enables : NoticeSet) (k : Notice) :
    (x.post pulse enables k).waiting = x.waiting := by
  obtain ⟨y, h, e⟩ := PortState.post_eq x pulse enables k; rw [h, e]

@[simp] theorem PortState.post_receiver (x : PortState) (pulse : Bool) (enables : NoticeSet) (k : Notice) :
    (x.post pulse enables k).receiver = x.receiver := by
  obtain ⟨y, h, e⟩ := PortState.post_eq x pulse enables k; rw [h, e]

/-- A kind is pending after its posting on a port that carries it. -/
theorem PortState.post_has (x : PortState) (pulse : Bool) (enables : NoticeSet) (k : Notice) :
    hasNotice (x.post pulse enables k).notices k = true := by
  unfold PortState.post
  split
  · assumption
  · have h : hasNotice (x.notices ||| k.mask) k = true := by
      cases k <;> simp [hasNotice, Notice.mask, Notice.bit]
    cases pulse <;> simp only [Bool.false_eq_true, if_false, if_true]
    · exact h
    · split
      · unfold PortState.owePulse; split <;> exact h
      · exact h

/-! ### Request rows -/

/-- A served request ends in its owner's answer (R155 case 5, R156). -/
theorem request_served {kind : RequestKind} {port : Port} {tag : Byte} {body : List Byte}
    {owner : State → State × Answer} {s : State} (h : Serves s kind port body) :
    request kind port tag body owner s = .next
      (match owner ((s.heard port).enter port kind tag) with
        | (s1, .done reply) => s1.finish port (doneReply kind.code tag reply)
        | (s1, .refused reason) => s1.finish port (refusedReply kind.code tag reason)
        | (s1, .held) => s1) := by
  obtain ⟨h1, h2, h3, h4⟩ := h
  have e : ((s.heard port).port port).service.isSome = false := by simp [State.heard, h2]
  have p : kind.permitted (s.heard port).straps.fsrcHigh port = true := by simp [State.heard, h3]
  simp only [request, whenRunning, h1, if_true, serve, e, p, h4]
  simp only [Bool.false_eq_true, if_false, Bool.not_true, bne_self_eq_false]
  rcases owner _ with ⟨s1, _ | _ | _⟩ <;> rfl

/-- A request to a busy port (R155 case 1). -/
theorem request_busy {kind : RequestKind} {port : Port} {tag : Byte} {body : List Byte}
    {owner : State → State × Answer} {s : State} (h1 : s.running = true)
    (h2 : (s.port port).service.isSome = true) :
    request kind port tag body owner s = .next
      ((s.heard port).setPort port (((s.heard port).port port).answerBusy kind.code tag)) := by
  simp [request, whenRunning, h1, serve, State.heard, h2]

/-- A request of a kind not permitted on its port (R155 case 3). -/
theorem request_not_on_port {kind : RequestKind} {port : Port} {tag : Byte} {body : List Byte}
    {owner : State → State × Answer} {s : State} (h1 : s.running = true)
    (h2 : (s.port port).service = none) (h3 : kind.permitted s.straps.fsrcHigh port = false) :
    request kind port tag body owner s = .next (s.refusedWith kind port tag .notOnPort) := by
  simp [request, whenRunning, h1, serve, State.heard, h2, h3, State.send, State.refusedWith,
    State.replied, refusedReply, PortState.transmit]
  cases (s.port port).sending <;> rfl

/-- A request whose body has another length than its kind requires (R155 case 4). -/
theorem request_bad_length {kind : RequestKind} {port : Port} {tag : Byte} {body : List Byte}
    {owner : State → State × Answer} {s : State} (h1 : s.running = true)
    (h2 : (s.port port).service = none) (h3 : kind.permitted s.straps.fsrcHigh port = true)
    (h4 : body.length ≠ kind.bodyLength body) :
    request kind port tag body owner s = .next (s.refusedWith kind port tag .badField) := by
  simp [request, whenRunning, h1, serve, State.heard, h2, h3, h4, State.send, State.refusedWith,
    State.replied, refusedReply, PortState.transmit]
  cases (s.port port).sending <;> rfl

/-- While the part does not run no request changes it (R172). -/
theorem request_not_running {kind : RequestKind} {port : Port} {tag : Byte} {body : List Byte}
    {owner : State → State × Answer} {s : State} (h : s.running = false) :
    request kind port tag body owner s = .next s := by simp [request, whenRunning, h]

/-- An owner that refuses: the port is as the request found it, but for its reply. -/
theorem request_refused {kind : RequestKind} {port : Port} {tag : Byte} {body : List Byte}
    {owner : State → State × Answer} {s t : State} {reason : Reason} (h : Serves s kind port body)
    (ht : (t.port port).service = none)
    (ho : owner ((s.heard port).enter port kind tag)
      = ((t.heard port).enter port kind tag, .refused reason)) :
    request kind port tag body owner s = .next (t.refusedWith kind port tag reason) := by
  rw [request_served h, ho]
  simp only [State.finish, State.enter, State.heard, State.setPort_port, State.setPort_setPort,
    State.refusedWith, State.replied, refusedReply, PortState.transmit]
  rw [ht.symm]
  cases (t.port port).sending <;> rfl

/-- An owner that answers: the port is as its work leaves it, but for its reply. -/
theorem request_answered {kind : RequestKind} {port : Port} {tag : Byte} {body reply : List Byte}
    {owner : State → State × Answer} {s t : State} (h : Serves s kind port body)
    (ht : (t.port port).service = none)
    (ho : owner ((s.heard port).enter port kind tag)
      = ((t.heard port).enter port kind tag, .done reply)) :
    request kind port tag body owner s = .next (t.doneWith kind port tag reply) := by
  rw [request_served h, ho]
  simp only [State.finish, State.enter, State.heard, State.setPort_port, State.setPort_setPort,
    State.doneWith, State.replied, doneReply, PortState.transmit]
  rw [ht.symm]
  cases (t.port port).sending <;> rfl

/-! ### The request in service and the state around it -/

/-- Nothing of the state but a port's receiver and service tells that a request is in service. -/
theorem State.heard_enter_eq (s : State) (port : Port) (kind : RequestKind) (tag : Byte) :
    (s.heard port).enter port kind tag
      = s.setPort port
          { s.port port with receiver := .hunting false, service := some ⟨kind, tag⟩ } := by
  simp [State.heard, State.enter]

theorem PortState.post_with (x : PortState) (pulse : Bool) (enables : NoticeSet) (k : Notice)
    (r : Receiver) (v : Option Service) :
    { x with receiver := r, service := v }.post pulse enables k
      = { x.post pulse enables k with receiver := r, service := v } := by
  unfold PortState.post PortState.owePulse PortState.judgeLevel
  split
  · rfl
  · cases pulse <;> simp only [Bool.false_eq_true, if_false, if_true]
    split
    · split <;> rfl
    · rfl

/-- A posting takes no notice of the request in service. -/
theorem State.post_heard_enter (s : State) (port : Port) (kind : RequestKind) (tag : Byte) (k : Notice) :
    ((s.heard port).enter port kind tag).post k = ((s.post k).heard port).enter port kind tag := by
  simp only [State.heard_enter_eq]
  cases port <;> simp only [State.post, State.postOn, State.setPort, State.port] <;>
    split <;> split <;> first | rfl | (congr 1; exact PortState.post_with ..)

theorem State.postIf_heard_enter (s : State) (port : Port) (kind : RequestKind) (tag : Byte) (c : Bool)
    (k : Notice) :
    ((s.heard port).enter port kind tag).postIf c k
      = ((s.postIf c k).heard port).enter port kind tag := by
  cases c
  · rfl
  · exact s.post_heard_enter port kind tag k

@[simp] theorem State.post_port_service (s : State) (k : Notice) (port : Port) :
    ((s.post k).port port).service = (s.port port).service := by
  rw [State.post_port]; split <;> simp

@[simp] theorem State.postIf_port_service (s : State) (c : Bool) (k : Notice) (port : Port) :
    ((s.postIf c k).port port).service = (s.port port).service := by
  cases c <;> simp

end Sys2Proof.Machine
end

