-- ==== Sys2Proof/Laws/Reports.lean ====
section
/-! SUPPORT. The holds of a report frame: what reading them answers. -/

namespace Sys2Proof.Machine

/-- What reading the holds answers: the one list of that many holds whose bytes these are, and none where
there is no such list (R131 checks 4 and 5). -/
theorem readHolds_iff (n : Nat) (bytes : List Byte) (holds : List Hold) :
    readHolds n bytes = some holds ↔ holds.length = n ∧ CarriesHolds bytes holds := by
  induction n generalizing bytes holds with
  | zero =>
    unfold readHolds CarriesHolds
    cases bytes <;> cases holds <;> simp
  | succ n ih =>
    have split9 : 9 ≤ bytes.length → bytes = be 4 (field bytes 0 4) ++ be 4 (field bytes 4 4)
        ++ (be 1 (field bytes 8 1) ++ bytes.drop 9) := by
      intro h
      rw [be_field _ _ _ (by omega), be_field _ _ _ (by omega), be_field _ _ _ (by omega)]
      conv_lhs => rw [← List.take_append_drop 4 bytes]
      rw [List.append_assoc, List.drop_zero]; congr 1
      conv_lhs => rw [← List.take_append_drop 4 (bytes.drop 4)]
      congr 1; rw [List.drop_drop]
      conv_lhs => rw [← List.take_append_drop 1 (bytes.drop 8)]
      simp
    have lt4 : ∀ i, field bytes i 4 < 4294967296 := fun i => field_lt bytes i 4
    have lt2 : ∀ i, field bytes i 2 < 65536 := fun i => field_lt bytes i 2
    constructor
    · intro h
      unfold readHolds at h
      split at h
      · cases h
      · rename_i h9
        have s9 := split9 (by omega)
        split at h
        · rename_i hk
          obtain ⟨rest, hr, rfl⟩ := Option.map_eq_some_iff.mp h
          obtain ⟨hl, hc, hf⟩ := (ih _ _).mp hr
          refine ⟨by simp [hl], ?_, ?_⟩
          · rw [hk] at s9
            rw [List.flatMap_cons, ← hc]
            simpa [Hold.carried, be] using s9
          · intro x hx
            rcases List.mem_cons.mp hx with rfl | hx
            · exact ⟨lt4 0, lt4 4, fun e he => by cases he⟩
            · exact hf x hx
        · rename_i hk
          split at h
          · cases h
          · rename_i h11
            obtain ⟨rest, hr, rfl⟩ := Option.map_eq_some_iff.mp h
            obtain ⟨hl, hc, hf⟩ := (ih _ _).mp hr
            refine ⟨by simp [hl], ?_, ?_⟩
            · have s11 : bytes.drop 9 = be 2 (field bytes 9 2) ++ bytes.drop 11 := by
                rw [be_field _ _ _ (by omega)]
                conv_lhs => rw [← List.take_append_drop 2 (bytes.drop 9)]
                simp
              rw [hk, s11] at s9
              rw [List.flatMap_cons, ← hc]
              simpa [Hold.carried, be] using s9
            · intro x hx
              rcases List.mem_cons.mp hx with rfl | hx
              · exact ⟨lt4 0, lt4 4, fun e he => by cases he; exact lt2 9⟩
              · exact hf x hx
        · cases h
    · rintro ⟨hl, hc, hf⟩
      cases holds with
      | nil => simp at hl
      | cons x rest =>
        obtain ⟨hs, he, hk⟩ := hf x (by simp)
        have hrest : readHolds n (rest.flatMap Hold.carried) = some rest :=
          (ih _ _).mpr ⟨by simpa using hl, rfl, fun y hy => hf y (by simp [hy])⟩
        obtain ⟨st, en, kd⟩ := x
        simp only at hs he hk
        have f0 : ∀ tail, field (be 4 st ++ (be 4 en ++ tail)) 0 4 = st := by
          intro tail; have := field_be [] (be 4 en ++ tail) 4 st
          simp only [List.nil_append, List.length_nil] at this
          rw [this]; exact Nat.mod_eq_of_lt hs
        have f4 : ∀ tail, field (be 4 st ++ (be 4 en ++ tail)) 4 4 = en := by
          intro tail; have := field_be (be 4 st) tail 4 en
          simp only [be_length] at this
          rw [this]; exact Nat.mod_eq_of_lt he
        have d9 : ∀ (c : Byte) tail, (be 4 st ++ (be 4 en ++ c :: tail)).drop 9 = tail := by
          intro c tail
          simp [be]
        have f8 : ∀ (c : Byte) tail, field (be 4 st ++ (be 4 en ++ c :: tail)) 8 1 = c.toNat := by
          intro c tail
          simp [field, be, readBytes]
        cases kd with
        | withdraw =>
          have hb : bytes = be 4 st ++ (be 4 en ++ 1#8 :: rest.flatMap Hold.carried) := by
            rw [hc, List.flatMap_cons]; simp [Hold.carried]
          rw [hb]; unfold readHolds
          rw [if_neg (by simp; omega), f8, f0, f4, d9]
          simp [hrest]
        | floor e =>
          have hb : bytes = be 4 st ++ (be 4 en ++ 2#8 :: (be 2 e ++ rest.flatMap Hold.carried)) := by
            rw [hc, List.flatMap_cons]; simp [Hold.carried]
          rw [hb]; unfold readHolds
          have d11 : (be 4 st ++ (be 4 en ++ 2#8 :: (be 2 e ++ rest.flatMap Hold.carried))).drop 11
              = rest.flatMap Hold.carried := by
            simp [be]
          have f9 : field (be 4 st ++ (be 4 en ++ 2#8 :: (be 2 e ++ rest.flatMap Hold.carried))) 9 2
              = e := by
            have := field_be (be 4 st ++ be 4 en ++ [2#8]) (rest.flatMap Hold.carried) 2 e
            simp only [List.append_assoc, List.length_append, be_length, List.length_singleton,
              List.singleton_append] at this
            rw [this]; exact Nat.mod_eq_of_lt (hk e rfl)
          rw [if_neg (by simp; omega), f8, f0, f4, d11, f9]
          simp [hrest]; omega

end Sys2Proof.Machine
end

