-- ==== Sys2Proof/WellFormed.lean ====
section
/-! DEFINITION. Which terms of `Instr` stand for commands the part can meet. -/

namespace Sys2Proof

/-- A request body fits the envelope of Table 10-2: at most 240 bytes. -/
def bodyFits (body : List Byte) : Bool := decide (body.length ≤ 240)

/-- A complete report frame as R130 admits it: 20 to 64 bytes, as many as its length field announces. -/
def reportFrameComplete (frame : List Byte) : Bool :=
  match frame with
  | [] => false
  | length :: _ => decide (length.toNat = frame.length ∧ 20 ≤ frame.length ∧ frame.length ≤ 64)

/-- The kind codes of Table 10-1 run from 0x01 to 0x1C without a gap. -/
def kindCodeListed (kind : Byte) : Bool := decide (1 ≤ kind.toNat ∧ kind.toNat ≤ 0x1C)

/-- The command is one the part can meet: a body fits its frame, an unknown kind is not in
Table 10-1, a complete report frame has the length it announces (R130), an invalid length lies outside
20..64 (R130), and a timer names an id a commitment can carry (1..65535). -/
def WellFormed : Instr → Bool
  | .unknownRequest _ kind _ body => !kindCodeListed kind && bodyFits body
  | .award _ _ body | .withdraw _ _ body | .release _ _ body | .bookOpen _ _ body
  | .bookNext _ _ body | .timeSync _ _ body | .level _ _ body | .freq _ _ body
  | .planRead _ _ body | .availRead _ _ body | .enrol _ _ body | .retire _ _ body
  | .unitMode _ _ body | .unitTest _ _ body | .unitRead _ _ body | .logOpen _ _ body
  | .logNext _ _ body | .deliveryRead _ _ body | .paramSet _ _ body | .paramRead _ _ body
  | .paramDescribe _ _ body | .profileSave _ _ body | .profileStartup _ _ body
  | .profileLoad _ _ body | .noticeRead _ _ body | .noticeMask _ _ body
  | .statusRead _ _ body | .restart _ _ body => bodyFits body
  | .supportTimerExpiry id | .lockoutTimerExpiry id => decide (id ≠ 0)
  | .reportFrameReceived frame => reportFrameComplete frame
  | .reportLengthInvalid length => decide (length.toNat < 20 ∨ 64 < length.toNat)
  | .powerOn _ _ | .supplyLoss | .resetPinLow | .resetPinRelease | .restartReplySent
  | .requestDiscarded _ | .receiverSilence _ | .slotBoundary | .saveWriteComplete
  | .startupWriteComplete | .attentionPulseTimer _ | .lrefEdge _ | .lossCompareExpiry
  | .silenceTimerExpiry | .conversionSetStart | .conversionComplete _ | .thermalUpdate
  | .dispatchCycle | .levelAgeLate | .levelAgeExpired | .testTimerExpiry | .roundTimerExpiry
  | .setpointFrameSent | .replyTimeout | .quietEnd | .secondInSlotAdvance
  | .portByteReceived _ _ | .replyTransmitted _ | .quietCharacterReceived => true

end Sys2Proof
end

