-- ==== Sys2Proof/Tests/Slice0.lean ====
section
/-! SUPPORT. Tests: the well-formedness smoke, worked examples of the spec one step at a time, and for
every statement that has hypotheses a witness that meets them. -/

namespace Sys2Proof.Tests

set_option Elab.async false

open Sys2Proof.Machine

/-! ### Small states -/

/-- The state a command answers with. -/
def after (c : Instr) (s : State) : State :=
  match exec c s with
  | .next t => t
  | .fault _ => s
  | .refused _ => s

/-- The body of the reply being sent on a port. -/
def replied (s : State) (port : Port) : Option (ReplyOutcome × Reason × List Byte) :=
  (s.port port).sending.map fun r => (r.outcome, r.reason, r.body)

/-- FACTORY with one parameter changed. -/
def tuned (i : ParamId) (v : Int) : Profile := Profile.factory.put i v

/-- The report of unit 17 (2.7, 3.1). -/
def report17 : Report := ⟨9000, 13500, -200, 5000, 5000, 2000, 0, false⟩

/-- A LIVE unit in AUTO with that report. -/
def unit17 (g : Nat) : UnitRecord :=
  { UnitRecord.enrolled .auto g with link := .live, report := some report17 }

/-- The part with unit 17 enrolled and LIVE. -/
def fleeted : State := { State.reset with fleet := [(17, unit17 4096)] }

/-- The clock in slot 10, second 0, and the array built over an empty table. -/
def clocked : State :=
  { State.reset with clock := ⟨true, 10, 0, 0⟩, plan := Plan.build .factory [] 10 }

/-- A PENDING TRIG commitment over slots 12 and 13. -/
def waitingTrig : Commitment :=
  ⟨1, 7, 1, 12, 13, .trig 300 30 10 60, ⟨100, 0⟩, ⟨1, 0⟩, .pending, .clear⟩

/-- The book with that commitment. -/
def booked : State :=
  { clocked with
    book := ⟨[waitingTrig], some 2, 1⟩
    plan := clocked.plan.mapRows (PlanRow.commit waitingTrig) }

/-- A TRIG commitment in force over slots 10 and 11, its level record in a phase (5.3). -/
def forcedTrig (phase : TrigPhase) : Commitment :=
  ⟨2, 7, 1, 10, 11, .trig 300 30 10 60, ⟨10000, 0⟩, ⟨84, 0⟩,
    .inForce ⟨0, 0, .trig phase⟩, .clear⟩

/-- The book with that commitment. -/
def forced (phase : TrigPhase) : State :=
  { clocked with
    book := ⟨[forcedTrig phase], some 2, 2⟩
    plan := clocked.plan.mapRows (PlanRow.commit (forcedTrig phase)) }

/-- The meter VALID with five periods of 200,000 ticks (4.2). -/
def validMeter : Meter :=
  ⟨16700000, some 16700000, List.replicate 5 200000, 0, .valid, some 50000, some 16700000, none⟩

def metered : State := { State.reset with meter := validMeter }

/-- Readings relayed over the Operator Port, 60 Hz nominal, the meter LOST (4.3). -/
def relayed : State :=
  { State.reset with straps := ⟨true, true⟩, meter := .initial true }

/-- A visit to unit 17, its setpoint frame 500 W. -/
def visit17 : Visit := ⟨17, ⟨17, 50, true, false, false, false⟩, 5, false, []⟩

/-- The fleet link in a phase of that visit, in the first round. -/
def visiting (phase : LinkPhase) : State :=
  { fleeted with link := ⟨1, 0, some 17, phase, some ⟨0, 2000000⟩, some visit17, phase == .sending⟩ }

/-- A report frame (Table 10-5): its bytes and its check. -/
def framed (bytes : List Byte) : List Byte := bytes ++ crcBytes bytes

/-- Unit 17 answers with 2,100 W and no hold. -/
def frame17 : List Byte :=
  framed ([20#8, 2#8, 17#8] ++ be 2 9000 ++ be 2 13500 ++ be 2 210 ++ be 2 500 ++ be 2 500
    ++ be 2 2000 ++ [0#8, 0#8, 0#8])

/-- A report frame of a kind, from unit 17, with a hold count and the bytes of its holds. -/
def holdFrame (length kind count : Byte) (holds : List Byte) : List Byte :=
  framed ([length, kind, 17#8] ++ be 2 9000 ++ be 2 13500 ++ be 2 210 ++ be 2 500 ++ be 2 500
    ++ be 2 2000 ++ [0#8, 0#8, count] ++ holds)

/-- A WITHDRAW hold and a FLOOR hold of 6,000 Wh. -/
def twoHolds : List Hold := [⟨20, 30, .withdraw⟩, ⟨40, 50, .floor 6000⟩]

/-- An open episode, as the opening of number 47 leaves it (9.9). -/
def episode47 : Episode := { Episode.opening 47 2040 312 with delivered := 5600, previous := 6000 }

def delivering : State := { fleeted with delivery := ⟨some episode47, [], some 48⟩ }

/-- PULSE mode at the Market Port, with a pulse being given and two more owed. -/
def pulsing : State :=
  { State.reset with
    profile := tuned .marketAttention 1
    market := { PortState.afterReset with owed := 2 } }

/-- RESTART in service, its reply being sent. -/
def restarting : State :=
  { State.reset with market := { PortState.afterReset with
      service := some ⟨.restart, 5#8⟩, sending := some ⟨0x1C#8, 5#8, .done, .clear, []⟩ } }

/-- RESET held low. -/
def heldLow : State := after .resetPinLow State.reset

/-! ### Well-formedness: an ill-formed term for each check -/

theorem test_wellFormed_kind : WellFormed (.unknownRequest .market 0x1C#8 0 []) = false := by decide

theorem test_wellFormed_unlisted_kind : WellFormed (.unknownRequest .market 0x1D#8 0 []) = true := by
  decide

theorem test_wellFormed_unknown_body :
    WellFormed (.unknownRequest .market 0#8 0 (List.replicate 241 0)) = false := by decide +kernel

theorem test_wellFormed_body : WellFormed (.award .market 0 (List.replicate 241 0)) = false := by
  decide +kernel

theorem test_wellFormed_longest_body : WellFormed (.award .market 0 (List.replicate 240 0)) = true := by
  decide +kernel

theorem test_wellFormed_support_id : WellFormed (.supportTimerExpiry 0) = false := by decide

theorem test_wellFormed_lockout_id : WellFormed (.lockoutTimerExpiry 0) = false := by decide

theorem test_wellFormed_frame : WellFormed (.reportFrameReceived (frame17.drop 1)) = false := by
  decide +kernel

theorem test_wellFormed_empty_frame : WellFormed (.reportFrameReceived []) = false := by decide

theorem test_wellFormed_whole_frame : WellFormed (.reportFrameReceived frame17) = true := by
  decide +kernel

theorem test_wellFormed_length : WellFormed (.reportLengthInvalid 20) = false := by decide

theorem test_wellFormed_length_above : WellFormed (.reportLengthInvalid 65) = true := by decide

/-! ### Words, codes, the check -/

/-- No row of the opcode table gives bits. -/
theorem test_decode : decodeTableWord 16 0xC33C = none := by decide

/-- R154: the check over the nine bytes of 123456789 is 0x29B1. -/
theorem test_crc :
    crc16 [0x31#8, 0x32#8, 0x33#8, 0x34#8, 0x35#8, 0x36#8, 0x37#8, 0x38#8, 0x39#8] = 0x29B1#16 := by
  decide +kernel

/-- Table 10-1: 28 kinds, each found at its code. -/
theorem test_kinds : RequestKind.all.length = 28 ∧
    ∀ k ∈ RequestKind.all, RequestKind.ofCode k.code = some k := by decide +kernel

theorem test_kind_absent : RequestKind.ofCode 0x1D#8 = none := by decide +kernel

/-- Table 11-2: 42 parameters, each found at its id, each default in its range. -/
theorem test_params : ParamId.all.length = 42 ∧
    ∀ i ∈ ParamId.all, ParamId.ofCode i.code = some i ∧ Profile.factory.get i = i.default := by
  decide +kernel

/-- R166: signed fields are two's complement, most significant byte first. -/
theorem test_signed : beInt 4 (-200) = [0xFF#8, 0xFF#8, 0xFF#8, 0x38#8] ∧
    fieldInt [0xFF#8, 0x38#8] 0 2 = -200 := by decide +kernel

/-! ### Clock and book (chapter 1) -/

/-- R3: the first TIME-SYNC sets the clock and posts CLOCK; the reply returns slot and second. -/
theorem test_timeSync : (after (.timeSync .operator 1 (be 4 2040 ++ be 2 312)) State.reset).clock
      = ⟨true, 2040, 312, 0⟩ ∧
    replied (after (.timeSync .operator 1 (be 4 2040 ++ be 2 312)) State.reset) .operator
      = some (.done, .clear, be 4 2040 ++ be 2 312) := by decide +kernel

/-- R4: an earlier slot is refused BACKWARD. -/
theorem test_timeSync_backward :
    replied (after (.timeSync .operator 1 (be 4 9 ++ be 2 0)) clocked) .operator
      = some (.refused, .backward, []) := by decide +kernel

/-- R1: past second 899 the slot advances by 1. -/
theorem test_slotBoundary : (after .slotBoundary clocked).clock = ⟨true, 11, 0, 0⟩ := by decide +kernel

/-- R1: in the last slot second 899 holds. -/
theorem test_slotBoundary_last :
    (after .slotBoundary { clocked with clock := ⟨true, 4294967295, 899, 0⟩ }).clock
      = ⟨true, 4294967295, 899, 0⟩ := by decide +kernel

theorem test_second : (after .secondInSlotAdvance clocked).clock = ⟨true, 10, 1, 0⟩ := by decide +kernel

/-- 1.7 event 7: a FIRING record that has ended becomes OVERRUN. -/
theorem test_overrun :
    ((after .slotBoundary { forced (.firing ⟨0, 9⟩) with clock := ⟨true, 11, 0, 0⟩ }).book.records.map
      Commitment.standing) = [.overrun ⟨0, 0, .trig (.firing ⟨0, 9⟩)⟩] := by decide +kernel

/-- R12, R78: a record due starts IN_FORCE, READY with count 0. -/
theorem test_start :
    ((after .slotBoundary { booked with clock := ⟨true, 11, 0, 0⟩ }).book.records.map
      Commitment.standing) = [.inForce ⟨0, 0, .trig (.ready 0)⟩] := by decide +kernel

/-- R9: with the clock UNSET an award record is refused NO_TIME, in a DONE reply. -/
theorem test_award_no_time :
    replied (after (.award .market 1 (1#8 :: List.replicate 28 0)) State.reset) .market
      = some (.done, .clear, [1#8, 8#8, 0#8, 0#8, 0#8, 0#8, 0#8, 0#8, 0#8]) := by decide +kernel

/-- R8: a batch of no record is refused BAD_FIELD. -/
theorem test_award_empty :
    replied (after (.award .market 1 [0#8]) clocked) .market = some (.refused, .badField, []) := by
  decide +kernel

theorem test_withdraw : (after (.withdraw .market 1 (be 2 1)) booked).book.records = [] := by
  decide +kernel

/-- R14: a record in force is refused WRONG_STATE. -/
theorem test_withdraw_forced :
    replied (after (.withdraw .market 1 (be 2 2)) (forced (.ready 0))) .market
      = some (.refused, .wrongState, []) := by decide +kernel

theorem test_release : (after (.release .operator 1 (be 2 2)) (forced (.ready 0))).book.records = [] := by
  decide +kernel

/-- R17: BOOK-OPEN gives the count, and the first BOOK-NEXT a record of 51 bytes. -/
theorem test_bookOpen : replied (after (.bookOpen .market 1 []) booked) .market
    = some (.done, .clear, [1#8]) := by decide +kernel

theorem test_bookNext_closed : replied (after (.bookNext .market 1 []) booked) .market
    = some (.refused, .notOpen, []) := by decide +kernel

/-! ### Fleet Table (chapter 2) -/

/-- R23: an enrolled unit is JOINING in its mode. -/
theorem test_enrol : Fleet.get (after (.enrol .market 1
      ([20#8, 2#8, 1#8] ++ be 4 3005 ++ be 4 2000 ++ be 2 0)) State.reset).fleet 20
    = some (UnitRecord.enrolled (.manual ⟨3000, 2000⟩) 4096) := by decide +kernel

/-- R23: a non-vacant entry is refused IN_USE. -/
theorem test_enrol_in_use :
    replied (after (.enrol .market 1 ([17#8, 1#8, 0#8] ++ be 8 0 ++ be 2 0)) fleeted) .market
      = some (.refused, .inUse, []) := by decide +kernel

theorem test_retire : (after (.retire .market 1 [17#8]) fleeted).fleet = [] := by decide +kernel

/-- R25: OFF zeroes the setpoint. -/
theorem test_unitMode :
    Fleet.get (after (.unitMode .market 1 ([17#8, 0#8, 0#8] ++ be 8 0))
      { fleeted with fleet := [(17, { unit17 4096 with setpoint := 500 })] }).fleet 17
      = some { unit17 4096 with mode := .plain .off } := by decide +kernel

/-- 2.7 event 1: test power 2,500 W for 30 s. -/
theorem test_unitTest : replied (after (.unitTest .market 1 [17#8]) fleeted) .market
    = some (.done, .clear, be 4 2500 ++ be 1 30) := by decide +kernel

/-- 2.7 event 10: 12,100 over 6 reports gives g 3,303. -/
theorem test_testTimer :
    (Fleet.get (after .testTimerExpiry { fleeted with fleet := [(17, { unit17 4096 with
      mode := .test ⟨0, .auto, -200, 2500, 30, 6, 12100⟩ })] }).fleet 17).map
      (fun u => (u.g, u.mode, u.lastTest)) = some (3303, .plain .auto, some (.passed 3303)) := by
  decide +kernel

/-- R26: a VACANT entry is answered with the one byte 1. -/
theorem test_unitRead : replied (after (.unitRead .market 1 [240#8]) fleeted) .market
    = some (.done, .clear, [1#8]) := by decide +kernel

theorem test_unitRead_address : replied (after (.unitRead .market 1 [241#8]) fleeted) .market
    = some (.refused, .badField, []) := by decide +kernel

/-! ### Headroom (chapter 3) -/

/-- 3.1: unit 17 with g 3,891 has 4,740 W on each side. -/
theorem test_headroom : liveHeadroom .factory (some 2040) (unit17 3891) = ⟨4740, 4740⟩ := by
  decide +kernel

/-- 3.1: under a FLOOR hold of 8,000 Wh, 3,790 W up. -/
theorem test_headroom_hold : liveHeadroom .factory (some 2040)
    { unit17 3891 with holds := [⟨2040, 2043, .floor 8000⟩] } = ⟨3790, 4740⟩ := by decide +kernel

/-- 3.3: planning power 4,740 W, planning energy 4,512 and 5,770 Wh. -/
theorem test_planning : planPower 2044 (unit17 3891) = ⟨4740, 4740⟩ ∧
    planEnergy .factory 2044 (unit17 3891) = ⟨4512, 5770⟩ := by decide +kernel

/-- R44: 10,000 W for 30 s is 84 Wh. -/
theorem test_requirement : energyRequirement ⟨10000, 0⟩ (.trig 300 30 10 60) = ⟨84, 0⟩ := by
  decide +kernel

/-- R57: before the first evaluation every figure is 0. -/
theorem test_availRead : replied (after (.availRead .operator 1 []) State.reset) .operator
    = some (.done, .clear, be 53 0) := by decide +kernel

/-- R58: with the clock UNSET, NO_TIME; no more than four rows. -/
theorem test_planRead : replied (after (.planRead .market 1 (be 4 10 ++ [4#8])) State.reset) .market
    = some (.refused, .noTime, []) := by decide +kernel

theorem test_planRead_rows :
    replied (after (.planRead .market 1 (be 4 10 ++ [5#8])) clocked) .market
      = some (.refused, .badField, []) := by decide +kernel

/-! ### Frequency and feeder measurement (chapter 4) -/

/-- 4.2 edge E1: the counter has wrapped, the period is 200,000 ticks and valid. -/
theorem test_edge : (after (.lrefEdge 122784) metered).meter
    = { validMeter with counter := 122784, previous := some 122784, lossCompare := some 122784 } := by
  decide +kernel

/-- 4.2 edge E4: 49,996 mHz. -/
theorem test_edge_drift :
    (after (.lrefEdge 522944) { State.reset with meter := ⟨322864, some 322864,
      List.replicate 5 200000, 2, .valid, some 50000, some 322864, none⟩ }).meter.latest
      = some 49996 := by decide +kernel

/-- R65: the meter is LOST and the previous capture absent. -/
theorem test_loss : (after .lossCompareExpiry metered).meter
    = ⟨16700000, none, [], 0, .lost, none, none, none⟩ := by decide +kernel

/-- 4.3 events 9 and 8: 55,000 mHz lies on the bound, 54,999 is BAD. -/
theorem test_freq : replied (after (.freq .operator 1 (be 4 55000)) relayed) .operator
    = some (.done, .clear, [1#8, 0#8]) := by decide +kernel

theorem test_freq_bad : replied (after (.freq .operator 1 (be 4 54999)) relayed) .operator
    = some (.done, .clear, [3#8, 1#8]) := by decide +kernel

/-- 4.3 event 6: no reading for 1 s. -/
theorem test_silence : (after .silenceTimerExpiry { relayed with meter :=
      ⟨0, none, [], 0, .valid, some 59950, none, some ⟨0, 10000000⟩⟩ }).meter
    = ⟨0, none, [], 0, .lost, none, none, none⟩ := by decide +kernel

/-- R74: code 2,253 at 800 A full scale gives 440 A. -/
theorem test_conversion : (after (.conversionComplete 2253) State.reset).analog.ia
    = ⟨2253, 440, true, false⟩ := by decide +kernel

/-- 4.4: code 1,800 at PNET gives −60,576 W; code 4,095 exactly the full scale, over-range. -/
theorem test_power : convertedRecord .factory .pnet 1800 = ⟨1800, -60576, true, false⟩ ∧
    convertedRecord .factory .pnet 4095 = ⟨4095, 500000, true, true⟩ := by decide +kernel

/-- 4.4: a set over three channels makes PNET ABSENT with 0 W. -/
theorem test_set : (after .conversionSetStart { State.reset with
      profile := tuned .channelEnables 7
      analog := { State.reset.analog with pnet := ⟨1800, -60576, true, false⟩ } }).analog.pnet
    = ⟨0, 0, false, false⟩ := by decide +kernel

/-! ### Levels (chapter 5) -/

/-- 5.2: PROP levels and required powers at DB 10, FULL 200, 40,000 W each way. -/
theorem test_prop : propFormula 50000 49990 10 200 = 0 ∧ propFormula 50000 49980 10 200 = 215 ∧
    requiredPower ⟨40000, 40000⟩ 215 = 2099 ∧ propFormula 50000 49750 10 200 = 4096 ∧
    propFormula 50000 50150 10 200 = -3018 ∧ requiredPower ⟨40000, 40000⟩ (-3018) = -29472 := by
  decide +kernel

/-- 5.2: the eleventh cycle without a VALID meter decays −1,500 to −1,295, −12,646 W. -/
theorem test_decay : cycleLevel ⟨0, 50000, 0, 11, 0⟩ (.prop 10 200 30 30) ⟨0, 40000⟩
      ⟨-1500, -14648, .prop⟩ = ⟨-1295, -12646, .prop⟩ := by decide +kernel

/-- 5.3: the first cycle in RELEASING, and the last. -/
theorem test_release_ramp :
    cycleLevel ⟨7, 50000, 0, 0, 0⟩ (.trig 300 30 10 60) ⟨10000, 0⟩
      ⟨4096, 10000, .trig (.releasing 50)⟩ = ⟨4014, 9799, .trig (.releasing 49)⟩ ∧
    cycleLevel ⟨7, 50000, 0, 0, 0⟩ (.trig 300 30 10 60) ⟨10000, 0⟩
      ⟨81, 197, .trig (.releasing 1)⟩ = ⟨0, 0, .trig (.lockout ⟨7, 600000000⟩)⟩ := by decide +kernel

/-- 5.3: the second confirming measurement fires, one above the threshold clears the count. -/
theorem test_confirm : takeConfirmation 0 50000 49660 300 30 (.ready 1) = .firing ⟨0, 300000000⟩ ∧
    takeConfirmation 0 50000 49705 300 30 (.ready 1) = .ready 0 := by decide +kernel

/-- 5.3: the support expires into RELEASING with k = 50. -/
theorem test_support :
    (after (.supportTimerExpiry 2) (forced (.firing ⟨0, 300000000⟩))).book.records
      = [forcedTrig (.releasing 50)] := by decide +kernel

theorem test_lockout : (after (.lockoutTimerExpiry 2) (forced (.lockout ⟨0, 600000000⟩))).book.records
    = [forcedTrig (.ready 0)] := by decide +kernel

/-- R90: a level beyond the range is clamped, and the applied target returned. -/
theorem test_level : replied (after (.level .operator 1 (beInt 4 (-5000))) State.reset) .operator
    = some (.done, .clear, beInt 2 (-4096)) := by decide +kernel

/-- R92: LATE at 4 s, EXPIRED at 30 s with the target kept. -/
theorem test_late : (after .levelAgeLate { State.reset with
    levels := ⟨0, 2048, .current, some ⟨0, 300000000⟩⟩ }).levels.age = .late := by decide +kernel

theorem test_expired : (after .levelAgeExpired { State.reset with
    levels := ⟨0, 2048, .late, some ⟨0, 300000000⟩⟩ }).levels = ⟨0, 2048, .expired, none⟩ := by
  decide +kernel

/-! ### The thermal model (chapter 6) -/

/-- 6.5 update 2: θ 95,023 and WARNING, UP throttled. -/
theorem test_thermal :
    let t := (after .thermalUpdate { State.reset with
      profile := tuned .timeConstant 600
      analog := { State.reset.analog with
        ia := ⟨0, 520, true, false⟩, pnet := ⟨1800, -60576, true, false⟩ }
      thermal := { State.reset.thermal with theta := 94980 } }).thermal
    (t.theta, t.zone, t.direction) = (95023, .warning, .up) := by decide +kernel

/-- 6.5: R of 2,099 W becomes 1,049 W; −3,000 W passes. -/
theorem test_permit : Thermal.permit ⟨95023, .warning, 85000, 95000, 110000, .up, 2048, none⟩ 2099
      = 1049 ∧
    Thermal.permit ⟨95023, .warning, 85000, 95000, 110000, .up, 2048, none⟩ (-3000) = -3000 := by
  decide +kernel

/-! ### Dispatch (chapter 7) -/

/-- The four units of 7.8. -/
def fourUnits : Fleet :=
  let u (soc capacity dis ch up down : Nat) (m : EnrolMode) : UnitRecord :=
    { UnitRecord.enrolled m 4096 with
      link := .live, report := some ⟨soc, capacity, 0, dis, ch, 0, 0, false⟩, live := ⟨up, down⟩ }
  [(5, u 9000 13500 5000 5000 4740 4740 .auto), (9, u 5000 10000 4000 4000 4000 4000 (.manual ⟨3000, 2000⟩)),
   (14, { u 6000 10000 3000 3000 0 0 .auto with bars := ⟨true, false, false⟩ }),
   (30, u 2000 10000 2500 3000 2250 2700 .auto)]

/-- 7.8: the weight sums 9,990 and 9,440 W. -/
theorem test_weights : Fleet.weights fourUnits = ⟨9990, 9440⟩ := by decide +kernel

/-- 7.8 cycle 1: the setpoints are the restorations, 1,000, 0, 0 and −600 W; the pointer becomes 5. -/
theorem test_cycle :
    let t := after .dispatchCycle { metered with
      fleet := fourUnits, apportioner := ⟨none, ⟨0, 0, 0, []⟩, 4⟩ }
    (t.fleet.map fun e => e.2.setpoint) = [1000, 0, 0, -600] ∧ t.apportioner.rotation = 5 := by
  decide +kernel

/-- 7.8 cycle 2: 12,345 W capped at 9,990 W, the shares the weights, the setpoints clamped. -/
theorem test_cycle_call :
    let r := formResult [⟨1, .prop, 4096, 12345⟩] State.reset.thermal fourUnits
    let f := fourUnits.map (dispatchUnit fourUnits 5 r.asked true .factory State.reset.thermal)
    r.asked = 9990 ∧ (f.map fun e => (e.2.participation, e.2.setpoint))
      = [(4740, 5000), (3000, 3000), (0, 0), (2250, 1650)] := by decide +kernel

/-- R79: the list carries id, product, level and required power: 5 s into the release ramp of 10 s. -/
theorem test_list :
    (forced (.releasing 26)).cycleComputation.book.levelList = [⟨2, .trig, 2048, 5000⟩] := by
  decide +kernel

/-! ### The fleet link (chapter 8) -/

/-- R130: the setpoint frame sent, AWAITING begins and FBDE falls. -/
theorem test_sent : (after .setpointFrameSent (visiting .sending)).link.phase
      = .awaiting ⟨0, 50000⟩ ∧
    (after .setpointFrameSent (visiting .sending)).link.fbde = false := by decide +kernel

/-- Table 10-5: the setpoint frame of 1,040 W, participating, to address 3. -/
theorem test_frame : (SetpointFrame.bytes ⟨3, 104, true, false, false, false⟩).take 8
    = [10#8, 1#8, 3#8, 0#8, 0#8, 0#8, 104#8, 1#8] := by decide +kernel

/-- R131, R132: a good report of 2,100 W is taken. -/
theorem test_report :
    (Fleet.get (after (.reportFrameReceived frame17) (visiting (.awaiting ⟨0, 50000⟩))).fleet 17).bind
      UnitRecord.report = some { report17 with power := 2100 } := by decide +kernel

/-- R131: the same frame judged for address 18 fails WRONG_ADDRESS. -/
theorem test_report_address : judgeFrame 18 frame17 = .error .wrongAddress := by decide +kernel

/-- R130: a timeout counts a miss. -/
theorem test_timeout :
    ((Fleet.get (after .replyTimeout (visiting (.awaiting ⟨0, 50000⟩))).fleet 17).map
      UnitRecord.misses) = some 1 := by decide +kernel

theorem test_length :
    ((Fleet.get (after (.reportLengthInvalid 19) (visiting (.awaiting ⟨0, 50000⟩))).fleet 17).map
      UnitRecord.misses) = some 1 := by decide +kernel

/-- R127: the walk done and the round timer running, the controller paces. -/
theorem test_quiet_end : (after .quietEnd (visiting (.quiet ⟨0, 1000⟩ ⟨0, 10000⟩))).link.phase
    = .pacing := by decide +kernel

theorem test_quiet_character :
    (after .quietCharacterReceived { visiting (.quiet ⟨0, 1000⟩ ⟨0, 10000⟩) with time := 500 }).link.phase
      = .quiet ⟨500, 1000⟩ ⟨0, 10000⟩ := by decide +kernel

/-- 8.5: at the completion round 39 becomes 40 and the start index 8 becomes 9. -/
theorem test_round : (after .roundTimerExpiry { State.reset with
      link := ⟨8, 39, some 3, .pacing, some ⟨0, 2000000⟩, none, false⟩ }).link
    = ⟨9, 40, none, .pacing, some ⟨0, 2000000⟩, none, false⟩ := by decide +kernel

/-! ### Delivery (chapter 9) -/

/-- 9.9 c2: of 6,000 W permitted 5,600 W are credited and 400 W short. -/
theorem test_account : (Episode.accumulate episode47 .factory false ⟨6000, 6000, 6000, []⟩).1.energies
    = ⟨6000, 6000, 0, 5600, 400⟩ := by decide +kernel

/-- 9.9: the outcome of the episode is SHORT, its energies 43, 23, 20, 19 and 3 Wh. -/
theorem test_outcome :
    let e := { episode47 with energies := ⟨786000, 426000, 360000, 354200, 71800⟩ }
    e.outcome .factory = .short ∧ e.energies.inWattHours = ⟨43, 23, 20, 19, 3⟩ := by decide +kernel

/-- R150: LOG-OPEN of an empty log, and LOG-NEXT unopened. -/
theorem test_logOpen : replied (after (.logOpen .market 1 []) State.reset) .market
    = some (.done, .clear, be 9 0) := by decide +kernel

theorem test_logNext : replied (after (.logNext .market 1 []) State.reset) .market
    = some (.refused, .notOpen, []) := by decide +kernel

/-- R151: with no open episode the one byte 1. -/
theorem test_deliveryRead : replied (after (.deliveryRead .operator 1 []) State.reset) .operator
    = some (.done, .clear, [1#8]) := by decide +kernel

/-! ### Ports (chapter 10) -/

/-- R154: the start pair makes the receiver RECEIVING. -/
theorem test_byte : (after (.portByteReceived .market 0x3C) { State.reset with
      market := { PortState.afterReset with receiver := .hunting true } }).market.receiver
    = .receiving [] ⟨0, 500000⟩ := by decide +kernel

theorem test_discard : (after (.requestDiscarded .operator) { State.reset with
      operator := { PortState.afterReset with receiver := .receiving [9#8] ⟨0, 500000⟩ } }).operator.receiver
    = .hunting false := by decide +kernel

theorem test_receiver_silence : (after (.receiverSilence .operator) { State.reset with
      operator := { PortState.afterReset with receiver := .receiving [9#8] ⟨0, 500000⟩ } }).operator.receiver
    = .hunting false := by decide +kernel

/-- R155: an unlisted kind is refused UNKNOWN, an AWARD on the Operator Port NOT_ON_PORT. -/
theorem test_unknown : replied (after (.unknownRequest .market 0x1D 1 []) State.reset) .market
    = some (.refused, .unknown, []) := by decide +kernel

theorem test_not_on_port : replied (after (.award .operator 1 []) State.reset) .operator
    = some (.refused, .notOnPort, []) := by decide +kernel

/-- R162: after a reset the pending set is CLOCK, bit 8, and a read makes the line low. -/
theorem test_noticeRead : replied (after (.noticeRead .market 1 []) State.reset) .market
      = some (.done, .clear, [1#8, 0#8]) ∧
    (after (.noticeRead .market 1 []) State.reset).market.line = false := by decide +kernel

/-- R163: disabling CLOCK makes the line low at once. -/
theorem test_noticeMask :
    (after (.noticeMask .market 1 [1#8, 0#8, 0#8, 0#8]) State.reset).market.line = false ∧
    replied (after (.noticeMask .market 1 [1#8, 0#8, 0#8, 0#8]) State.reset) .market
      = some (.done, .clear, [0x0E#8, 0xFF#8]) := by decide +kernel

theorem test_noticeMask_carried :
    replied (after (.noticeMask .operator 1 [2#8, 0#8, 0#8, 0#8]) State.reset) .operator
      = some (.refused, .badField, []) := by decide +kernel

/-- R158: the status of a part just started: CLOCK UNSET, 240 VACANT entries, 20,000 m°C. -/
theorem test_status : replied (after (.statusRead .market 1 []) State.reset) .market
    = some (.done, .clear, be 13 0 ++ [240#8] ++ be 8 0 ++ be 4 20000 ++ [0#8, 2#8, 0#8] ++ be 4 0) := by
  decide +kernel

/-- R156: the next waiting reply starts. -/
theorem test_transmitted : (after (.replyTransmitted .market) { State.reset with
      market := { PortState.afterReset with
        sending := some ⟨1#8, 1#8, .done, .clear, []⟩
        waiting := [⟨2#8, 2#8, .busy, .clear, []⟩] } }).market.sending
    = some ⟨2#8, 2#8, .busy, .clear, []⟩ := by decide +kernel

/-- R165: a pulse ends after 1 ms, and its low time runs. -/
theorem test_pulse : (after (.attentionPulseTimer .market) pulsing).market.line = false ∧
    (after (.attentionPulseTimer .market) pulsing).market.gap = true := by decide +kernel

/-- R157: RESTART is answered DONE and stays in service. -/
theorem test_restart : (after (.restart .market 5 []) State.reset).market = restarting.market := by
  decide +kernel

theorem test_restart_sent : (after .restartReplySent { restarting with
    clock := ⟨true, 10, 0, 0⟩ }).clock = ⟨false, 0, 0, 0⟩ := by decide +kernel

/-! ### Parameters, store, start-up (chapters 10.3 and 11) -/

/-- R159: a margin of 9,999 is clamped to 4,096. -/
theorem test_paramSet : replied (after (.paramSet .market 1 (0x0B#8 :: be 4 9999)) State.reset) .market
    = some (.done, .clear, 0x0B#8 :: be 4 4096) := by decide +kernel

/-- R159: θ_lo at θ_hi breaks the order. -/
theorem test_paramSet_order :
    replied (after (.paramSet .market 1 (0x1E#8 :: be 4 95000)) State.reset) .market
      = some (.refused, .order, []) := by decide +kernel

theorem test_paramRead : replied (after (.paramRead .operator 1 [0x1D#8]) State.reset) .operator
    = some (.done, .clear, 0x1D#8 :: be 4 20000) := by decide +kernel

theorem test_paramDescribe : replied (after (.paramDescribe .operator 1 [0x1D#8]) State.reset) .operator
    = some (.done, .clear, 0x1D#8 :: (beInt 4 (-20000) ++ be 4 50000 ++ be 4 20000 ++ be 4 20000)) := by
  decide +kernel

/-- R160: the two attention modes as a set in the low bits, 0 to 3; default LEVEL, value LEVEL. -/
theorem test_paramDescribe_mode :
    replied (after (.paramDescribe .operator 1 [0x27#8]) State.reset) .operator
      = some (.done, .clear, 0x27#8 :: (be 4 0 ++ be 4 3 ++ be 4 0 ++ be 4 0)) := by decide +kernel

/-- R168: the write begins with the slot's check word made invalid, and ends with a valid slot. -/
theorem test_save : (after (.profileSave .market 1 [1#8]) fleeted).store.slot1.valid = false ∧
    (after (.profileSave .market 1 [1#8]) fleeted).store.write
      = some (.image false .factory [⟨17, .auto, 4096⟩]) := by decide +kernel

theorem test_save_ends : (after .saveWriteComplete { State.reset with
      store := { Store.manufactured with write := some (.image true .factory [⟨17, .auto, 4096⟩]) } }).store.slot2
    = ⟨.factory, [⟨17, .auto, 4096⟩], true⟩ := by decide +kernel

theorem test_startup : (after (.profileStartup .market 1 [2#8]) State.reset).store.selector.valid
    = false := by decide +kernel

theorem test_startup_ends : (after .startupWriteComplete { State.reset with
      store := { Store.manufactured with write := some (.selector .two) } }).store.selector
    = ⟨.two, true⟩ := by decide +kernel

/-- R170: a load rebuilds the table. -/
theorem test_load : (after (.profileLoad .market 1 [0#8]) fleeted).fleet = [] := by decide +kernel

/-- 11.5: a save cut short: FACTORY is loaded and STORE posted, bits 8 and 11. -/
theorem test_cut_short : (after .resetPinRelease { heldLow with
      store := { Store.manufactured with
        slot1 := ⟨.factory, [⟨17, .auto, 4096⟩], false⟩, selector := ⟨.one, true⟩ } }).market.notices
    = 0x900#12 := by decide +kernel

/-- R171: the straps are sampled at power-on. -/
theorem test_powerOn : (after (.powerOn true true) State.reset).straps = ⟨true, true⟩ ∧
    (after (.powerOn true true) State.reset).meter.state = .lost := by decide +kernel

theorem test_supplyLoss : (after .supplyLoss State.reset).market.line = false ∧
    (after .supplyLoss State.reset).link.roundTimer = none := by decide +kernel

theorem test_resetLow : heldLow.running = false := by decide +kernel

/-- Log entry 1: the idle step is one millisecond. -/
theorem test_idle : State.reset.tick.time = 10000 ∧ clocked.tick.clock.ms = 1 := by decide +kernel

/-! ### Witnesses: for each statement with hypotheses, a state and operands that meet them -/

theorem booked_book : BookSound booked := by
  refine ⟨by decide, by decide, by decide, by decide, by decide, by decide, by decide, ?_, ?_, by decide,
    ?_, by decide +kernel, rfl⟩
  · intro n h; cases h; decide
  · intro c h; simp [booked] at h; subst h; simp [Commitment.wellFormed, waitingTrig, maxWord]
  · intro _; refine ⟨⟨by decide +kernel, by decide +kernel⟩, ?_⟩
    intro c h; simp [booked] at h; subst h; simp [Commitment.placed, waitingTrig, booked, clocked]

theorem unit17_sound (open_ : Bool) : (unit17 4096).sound open_ := by
  refine ⟨by decide, by decide, by decide, trivial, fun _ => rfl, ?_, by decide, by decide, by decide,
    by decide, by decide, by decide, ?_, fun h => absurd h (by simp [unit17, UnitRecord.enrolled])⟩
  · intro r h; cases h; simp [Report.sound, report17]
  · intro r h; cases h; decide

theorem empty_list : EnrolmentSound Store.manufactured.slot1.enrolment :=
  ⟨by decide, fun e h => nomatch h⟩

theorem fleeted_fleet : FleetSound fleeted := by
  refine ⟨by decide, by decide, ?_, by decide, empty_list, empty_list, ?_⟩
  · intro e h; simp [fleeted] at h; subst h; exact unit17_sound _
  · intro second p list h; cases h

theorem factory_sound : Profile.factory.Sound := by
  refine ⟨?_, by decide +kernel, by decide +kernel, by decide +kernel⟩
  have h : ParamId.all.all (fun i => match i.range with
    | .numeric lo hi => decide (lo ≤ Profile.factory.get i ∧ Profile.factory.get i ≤ hi)
    | .mode => decide (Profile.factory.get i = 0 ∨ Profile.factory.get i = 1)
    | .members mask => decide (0 ≤ Profile.factory.get i ∧
        (Profile.factory.get i).toNat &&& mask = (Profile.factory.get i).toNat)) = true := by
    decide +kernel
  intro i hi
  have := List.all_eq_true.mp h i hi
  unfold ParamId.fits
  cases hr : i.range <;> simp_all

/-- The model hot and WARNING, throttling UP. -/
def hot : State :=
  { State.reset with thermal := ⟨95023, .warning, 85000, 95000, 110000, .up, 2048, some ⟨0, 10000000⟩⟩ }

theorem hot_thermal : ThermalSound hot := by
  refine ⟨⟨factory_sound, factory_sound, factory_sound, ?_⟩, by decide, by decide, by decide, by decide,
    by decide, by decide⟩
  intro second p list h; cases h

theorem pulsing_ports : PortsSound pulsing := by
  refine ⟨fun port => ?_, fun h => absurd h (by decide)⟩
  cases port <;> refine ⟨by decide +kernel, ?_, ?_, by decide, by decide⟩
  · exact fun h => absurd h (by decide +kernel)
  · exact fun _ => ⟨by decide, by decide, by decide⟩
  · exact fun _ => ⟨by decide +kernel, by decide, by decide⟩
  · exact fun h => absurd h (by decide +kernel)

/-- A store whose slot 1, the start-up profile, is in PULSE mode at the Market Port, its check word wrong
or right. -/
def pulseStore (valid : Bool) : Store :=
  { Store.manufactured with
    slot1 := ⟨tuned .marketAttention 1, [], valid⟩, selector := ⟨.one, true⟩ }

/-- The selector names slot 1, which enrols unit 17. -/
def enrolledStore : Store :=
  { Store.manufactured with
    slot1 := ⟨.factory, [⟨17, .auto, 4096⟩], true⟩, selector := ⟨.one, true⟩ }

/-! #### The step, supply and reset -/

theorem witness_StepTakesTheFrontCommand :
    ({ State.reset with pending := [.thermalUpdate, .quietEnd] } : State).pending
      = .thermalUpdate :: [.quietEnd] := rfl

theorem witness_IdleStepIsOneMillisecond :
    (clocked.pending = [] ∧ clocked.running = true ∧ clocked.clock.set = true ∧ clocked.clock.ms < 999) ∧
    (State.reset.pending = [] ∧ State.reset.running = true ∧ State.reset.clock.set = false) ∧
    (heldLow.pending = [] ∧ heldLow.running = false) ∧
    ({ clocked with clock := ⟨true, 10, 0, 998⟩ } : State).clock.ms < 999 := by decide +kernel

theorem witness_CommandsLeaveTheQueueAlone : ∃ t, exec .dispatchCycle booked = .next t := ⟨_, rfl⟩

/-- Nothing armed, nothing in progress, an empty table. -/
def idle : State :=
  { relayed with
    analog := { State.reset.analog with converting := [] }
    link := { Link.initial with roundTimer := none } }

theorem witness_EventsThatCannotOccurChangeNothing :
    idle.resetLow = false ∧ (∀ v, idle.market.service = some v → v.kind ≠ .restart) ∧
    idle.store.write = none ∧ (idle.port .market).receiver = .hunting false ∧
    idle.profile.pulseMode .market = false ∧ idle.meter.lossCompare = none ∧ idle.meter.silence = none ∧
    idle.levels.ageTimer = none ∧ idle.book.find (1#16).toNat = none ∧
    (∀ e ∈ idle.fleet, e.2.inTest = false) ∧ idle.analog.converting = [] ∧
    idle.link.roundTimer = none ∧ idle.link.phase ≠ .sending ∧
    (∀ timeout, idle.link.phase ≠ .awaiting timeout) ∧
    (∀ wait bound, idle.link.phase ≠ .quiet wait bound) ∧ frameComplete [] = false := by
  refine ⟨rfl, fun v h => (nomatch h), rfl, rfl, by decide +kernel, rfl, rfl, rfl, rfl, by decide, rfl, rfl,
    by decide, fun _ h => (nomatch h), fun _ _ h => (nomatch h), by decide⟩

theorem witness_StartsLoadTheChosenProfile :
    ((startupTable (pulseStore true)).1.profile.pulseMode .market = true ∧
      (startupTable (pulseStore false)).1.profile.pulseMode .market = false ∧
      startupNotices (pulseStore false) .market = [.clock, .store] ∧
      (after (.powerOn false false) { State.reset with store := pulseStore true }).profile.pulseMode .market
        = true) ∧
    (EnrolmentSound (startupTable enrolledStore).1.enrolment ∧
      (after (.powerOn false false) { State.reset with store := enrolledStore }).fleet.head?.map Prod.fst
        = some 17 ∧ State.reset.fleet.head? = none) ∧
    State.reset.resetLow = false ∧ (heldLow.resetLow = true ∧ heldLow.powered = true) ∧
    (restarting.running = true ∧ restarting.market.service = some ⟨.restart, 5#8⟩ ∧
      restarting.market.sending = some ⟨0x1C#8, 5#8, .done, .clear, []⟩) := by
  refine ⟨by decide +kernel, ⟨⟨by decide +kernel, ?_⟩, by decide +kernel⟩, by decide +kernel⟩
  intro e h
  have h17 : e = ⟨17, .auto, 4096⟩ := List.mem_singleton.mp h
  subst h17; exact ⟨by decide, by decide, by decide, trivial⟩

theorem witness_HeldPartDrivesItsLinesLow :
    (∃ t, exec .supplyLoss booked = .next t) ∧ (∃ t, exec .resetPinLow booked = .next t) ∧
    (heldLow.resetLow = true ∧ ∃ t, exec (.powerOn true false) heldLow = .next t) ∧
    (({ heldLow with powered := false } : State).resetLow = true ∧
      ({ heldLow with powered := false } : State).powered = false ∧
      ∃ t, exec .resetPinRelease { heldLow with powered := false } = .next t) ∧
    (heldLow.running = false ∧ isPowerCommand .thermalUpdate = false) :=
  ⟨⟨_, rfl⟩, ⟨_, rfl⟩, ⟨rfl, _, rfl⟩, ⟨rfl, rfl, _, rfl⟩, rfl, rfl⟩

/-! #### Ports -/

def busyReply : Reply := ⟨0x1B#8, 1#8, .busy, .clear, []⟩

/-- A save in service, a reply being sent and four BUSY replies waiting. -/
def crowded : State :=
  { State.reset with market := { PortState.afterReset with
      service := some ⟨.profileSave, 1#8⟩, sending := some busyReply
      waiting := List.replicate 4 busyReply } }

theorem witness_RequestsAreTurnedAwayInOrder :
    (crowded.running = true ∧ (crowded.port .market).service.isSome = true ∧
      (crowded.port .market).sending.isSome = true ∧
      4 ≤ ((crowded.port .market).waiting.filter Reply.isBusy).length) ∧
    (State.reset.running = true ∧ (State.reset.port .operator).service = none ∧
      RequestKind.permitted State.reset.straps.fsrcHigh .operator .award = false) ∧
    (RequestKind.permitted State.reset.straps.fsrcHigh .market .award = true ∧
      ([1#8] : List Byte).length ≠ RequestKind.bodyLength [1#8] .award) := by decide +kernel

/-- A frame of length 2 whose check has not arrived. -/
def receiving2 : State :=
  { State.reset with
    market := { PortState.afterReset with receiver := .receiving [2#8, 0x1B#8, 1#8] ⟨0, 500000⟩ } }

theorem witness_ReceiverGathersBytes :
    (State.reset.port .market).receiver = .hunting false ∧
    (receiving2.running = true ∧
      (receiving2.port .market).receiver = .receiving (2#8 :: [0x1B#8, 1#8]) ⟨0, 500000⟩ ∧
      2 ≤ (2#8).toNat ∧ (2#8).toNat ≤ 242 ∧ ([0x1B#8, 1#8] : List Byte).length + 1 < (2#8).toNat + 2) ∧
    (242#8).toNat ≤ 242 := by decide +kernel

theorem witness_ByteStreamsRefineRequests :
    State.reset.running = true ∧ (State.reset.port .market).receiver = .hunting false ∧
    (List.replicate 240 (0#8)).length ≤ 240 ∧ (1#8).toNat < 2 ∧ 242 < (243#8).toNat ∧
    (0#8).toNat * 256 + (0#8).toNat
      ≠ (crc16 (be 1 (2 + ([] : List Byte).length) ++ [0x1B#8, 1#8] ++ [])).toNat := by decide +kernel

/-- A RESTART in service whose reply waits behind an earlier one. -/
def restartBehind : State :=
  { restarting with market := { restarting.market with
      sending := some ⟨0x19#8, 4#8, .done, .clear, [0#8, 0#8]⟩
      waiting := [⟨0x1C#8, 5#8, .done, .clear, []⟩] } }

theorem witness_RepliesLeaveInOrder :
    (crowded.running = true ∧ ∀ v, crowded.market.service = some v → v.kind ≠ .restart) ∧
    restarting.running = true ∧ restartBehind.running = true ∧
    ∀ r, restartBehind.market.sending = some r → r.kind ≠ 0x1C#8 ∨ r.outcome ≠ .done := by
  refine ⟨⟨rfl, fun v h => ?_⟩, rfl, rfl, fun r h => ?_⟩
  · cases h; decide
  · cases h; decide

theorem witness_AttentionPulsesAndPostings :
    hasNotice (carriedNotices .operator) .unit = false ∧
    (hasNotice (carriedNotices .market) .clock = true ∧
      hasNotice (State.reset.port .market).notices .clock = true) ∧
    (hasNotice (carriedNotices .market) .store = true ∧
      hasNotice (State.reset.port .market).notices .store = false ∧
      State.reset.profile.pulseMode .market = false) ∧
    (hasNotice (pulsing.port .market).notices .store = false ∧ pulsing.profile.pulseMode .market = true ∧
      hasNotice (pulsing.profile.enables .market) .store = true ∧ (pulsing.port .market).line = true) ∧
    (({ pulsing with profile := pulsing.profile.put .marketEnables 0 } : State).profile.pulseMode .market
        = true ∧
      hasNotice (({ pulsing with profile := pulsing.profile.put .marketEnables 0 } : State).profile.enables
        .market) .store = false) ∧
    pulsing.running = true := by decide +kernel

theorem witness_NoticeReadReturnsAndClears : Serves pulsing .noticeRead .market [] :=
  ⟨rfl, rfl, rfl, rfl⟩

theorem witness_NoticeMaskWritesSelectedEnables :
    Serves pulsing .noticeMask .operator [1#8, 0#8, 0#8, 0#8] ∧
    Serves pulsing .noticeMask .operator [2#8, 0#8, 0#8, 0#8] ∧ PortsSound pulsing ∧
    BitVec.ofNat 12 (field [1#8, 0#8, 0#8, 0#8] 0 2) &&& ~~~(carriedNotices .operator) = 0 ∧
    BitVec.ofNat 12 (field [2#8, 0#8, 0#8, 0#8] 0 2) &&& ~~~(carriedNotices .operator) ≠ 0 :=
  ⟨⟨rfl, rfl, rfl, rfl⟩, ⟨rfl, rfl, rfl, rfl⟩, pulsing_ports, by decide +kernel, by decide +kernel⟩

theorem witness_EveryStepKeepsThePorts :
    PortsSound { pulsing with pending := [.attentionPulseTimer .market] } ∧
    ∃ t, step { pulsing with pending := [.attentionPulseTimer .market] } = .next t :=
  ⟨pulsing_ports, _, rfl⟩

/-! #### Status and reads -/

/-- Booked, with unit 17 and an open episode. -/
def rich : State :=
  { booked with fleet := fleeted.fleet, delivery := delivering.delivery }

theorem rich_book : BookSound rich := booked_book

theorem rich_fleet : FleetSound rich := by
  refine ⟨by decide, by decide, ?_, by decide, empty_list, empty_list, ?_⟩
  · intro e h; simp [rich, fleeted] at h; subst h; exact unit17_sound _
  · intro second p list h; cases h

theorem witness_StatusReadAnswersTheFigures :
    Serves rich .statusRead .operator [] ∧ BookSound rich ∧ FleetSound rich ∧
    (rich.delivery.episode = some episode47 ∧ episode47.number ≤ maxWord) ∧
    -40000 ≤ rich.thermal.theta ∧ rich.thermal.theta ≤ 200000 ∧ rich.link.round ≤ maxWord :=
  ⟨⟨rfl, rfl, rfl, rfl⟩, rich_book, rich_fleet, by decide +kernel, by decide, by decide, by decide⟩

theorem witness_LayoutsHaveTheirLengths :
    ({ unit17 4096 with holds := List.replicate 4 ⟨1, 2, .withdraw⟩ }).holds.length ≤ 4 ∧
    ({ episode47 with contributors := List.replicate 8 ⟨1, .prop, 0⟩ }).contributors.length ≤ 8 ∧
    (episode47.record .factory 0 0).contributors.length ≤ 8 ∧
    (awardRecords [2#8])[1]? = some (AwardRecord.ofBytes []) ∧
    (forcedTrig (.ready 1)).standing = .inForce ⟨0, 0, .trig (.ready 1)⟩ ∧
    (unit17 4096).mode = .plain .auto ∧ (unit17 4096).report = some report17 ∧
    (Plan.build .factory [] 10).rows.head?.bind PlanRow.slot = some 10 ∧
    [1#8, 2#8, 3#8][1 + 1]? = some (3#8 : Byte) ∧
    (-(256 ^ 1 : Int) ≤ 2 * -128 ∧ 2 * -128 < (256 ^ 1 : Int)) ∧
    RequestKind.ofCode 0x1C#8 = some .restart := by decide +kernel

theorem witness_ReadsAnswerTheRecords :
    Serves rich .availRead .market [] ∧ Serves rich .deliveryRead .operator [] ∧
    Serves rich .unitRead .market [240#8] ∧
    (Serves State.reset .planRead .market (be 4 0 ++ [1#8]) ∧ State.reset.clock.set = false) ∧
    (Serves rich .planRead .market (be 4 203 ++ [4#8]) ∧ rich.clock.set = true ∧
      rich.clock.slot + 192 < field (be 4 203 ++ [4#8]) 0 4) ∧
    (Serves rich .planRead .market (be 4 9 ++ [0#8]) ∧ field (be 4 9 ++ [0#8]) 4 1 < 1 ∧
      field (be 4 9 ++ [0#8]) 0 4 < rich.clock.slot) ∧
    (Serves rich .planRead .market (be 4 202 ++ [4#8]) ∧ BookSound rich ∧
      1 ≤ field (be 4 202 ++ [4#8]) 4 1 ∧ field (be 4 202 ++ [4#8]) 4 1 ≤ 4 ∧
      rich.clock.slot ≤ field (be 4 202 ++ [4#8]) 0 4 ∧
      field (be 4 202 ++ [4#8]) 0 4 ≤ rich.clock.slot + 192) := by
  refine ⟨⟨rfl, rfl, rfl, rfl⟩, ⟨rfl, rfl, rfl, rfl⟩, ⟨rfl, rfl, rfl, rfl⟩, ⟨⟨rfl, rfl, rfl, rfl⟩, rfl⟩,
    ⟨⟨rfl, rfl, rfl, rfl⟩, rfl, by decide +kernel⟩, ⟨⟨rfl, rfl, rfl, rfl⟩, by decide +kernel⟩,
    ⟨rfl, rfl, rfl, rfl⟩, rich_book, by decide +kernel⟩

/-! #### Clock and book -/

theorem witness_TimeSyncSetsTheClock :
    (Serves clocked .timeSync .operator (be 4 10 ++ be 2 900) ∧ 899 < field (be 4 10 ++ be 2 900) 4 2) ∧
    (Serves clocked .timeSync .operator (be 4 4294967103 ++ be 2 0) ∧
      4294967102 < field (be 4 4294967103 ++ be 2 0) 0 4) ∧
    (Serves State.reset .timeSync .operator (be 4 4294967102 ++ be 2 899) ∧
      field (be 4 4294967102 ++ be 2 899) 4 2 ≤ 899 ∧
      field (be 4 4294967102 ++ be 2 899) 0 4 ≤ 4294967102 ∧ State.reset.clock.set = false) ∧
    (Serves clocked .timeSync .operator (be 4 10 ++ be 2 899) ∧ clocked.clock.set = true ∧
      field (be 4 10 ++ be 2 899) 0 4 = clocked.clock.slot) ∧
    (Serves clocked .timeSync .operator (be 4 9 ++ be 2 0) ∧
      field (be 4 9 ++ be 2 0) 0 4 < clocked.clock.slot) ∧
    (Serves clocked .timeSync .operator (be 4 11 ++ be 2 0) ∧ field (be 4 11 ++ be 2 0) 4 2 ≤ 899 ∧
      clocked.clock.slot < field (be 4 11 ++ be 2 0) 0 4) := by
  refine ⟨⟨⟨rfl, rfl, rfl, rfl⟩, by decide +kernel⟩, ⟨⟨rfl, rfl, rfl, rfl⟩, by decide +kernel⟩,
    ⟨⟨rfl, rfl, rfl, rfl⟩, by decide +kernel⟩, ⟨⟨rfl, rfl, rfl, rfl⟩, by decide +kernel⟩,
    ⟨⟨rfl, rfl, rfl, rfl⟩, by decide +kernel⟩, ⟨rfl, rfl, rfl, rfl⟩, by decide +kernel⟩

theorem witness_BoundarySettlesTheBook :
    (booked.running = true ∧ BookSound booked ∧ booked.clock.set = true ∧ booked.clock.slot < maxWord) ∧
    (booked.clock.second < 899 ∧ ({ booked with clock := ⟨true, 10, 898, 0⟩ } : State).clock.second < 899) ∧
    (let s : State := { booked with clock := ⟨true, maxWord - 1, 899, 0⟩ }
     s.running = true ∧ s.clock.set = true ∧ 899 ≤ s.clock.second ∧ s.clock.slot < maxWord) ∧
    (let s : State := { booked with clock := ⟨true, 4294967295, 899, 0⟩ }
     s.running = true ∧ s.clock.set = true ∧ s.clock.slot = 4294967295 ∧ s.clock.second = 899) ∧
    State.reset.clock.set = false :=
  ⟨⟨rfl, booked_book, rfl, by decide⟩, by decide, by decide, by decide, rfl⟩

/-- A fleet behind the array: 5,000 W and 4,000 Wh on each side of every row, nothing committed. -/
def backed : State :=
  { clocked with plan := clocked.plan.mapRows fun r => { r with power := ⟨5000, 5000⟩, energy := ⟨4000, 4000⟩ } }

theorem backed_book : BookSound backed := by
  refine ⟨by decide, by decide, by decide, by decide, by decide, by decide, by decide, ?_, ?_,
    fun h => absurd h (by decide), ?_, by decide +kernel, rfl⟩
  · intro n h; cases h; decide
  · intro c h; cases h
  · intro _; exact ⟨⟨by decide +kernel, by decide +kernel⟩, fun c h => (nomatch h)⟩

theorem clocked_book : BookSound clocked := by
  refine ⟨by decide, by decide, by decide, by decide, by decide, by decide, by decide, ?_, ?_,
    fun h => absurd h (by decide), ?_, by decide +kernel, rfl⟩
  · intro n h; cases h; decide
  · intro c h; cases h
  · intro _; exact ⟨⟨by decide +kernel, by decide +kernel⟩, fun c h => (nomatch h)⟩

/-- A TRIG award of 4,490 W up over slots 11 to 202, its parameters the profile's defaults. -/
def awardBody (start stop up down product : Nat) : List Byte :=
  1#8 :: (be 4 7 ++ be 1 product ++ be 4 start ++ be 4 stop ++ be 4 up ++ be 4 down ++ be 7 0)

/-- The record that body carries. -/
def awardRecord (start stop up down product : Nat) : AwardRecord :=
  ⟨7, product, start, stop, ⟨up, down⟩, 0, List.replicate 6 0⟩

theorem witness_AwardAdmitsWhatPasses :
    (Serves backed .award .market (awardBody 11 202 4490 0 2) ∧
      field (awardBody 11 202 4490 0 2) 0 1 = 1 ∧
      awardRecords (awardBody 11 202 4490 0 2) = [awardRecord 11 202 4490 0 2]) ∧
    BookSound backed ∧ backed.clock.set = true ∧ backed.clock.slot < 11 ∧ 202 ≤ backed.clock.slot + 192 ∧
    awardSnapshot backed.profile (awardRecord 11 202 4490 0 2) = some (.trig 300 30 10 60) ∧
    backed.book.records.length < 64 ∧ backed.book.nextSeq = some 1 ∧
    (∀ row ∈ backed.plan.all,
      row.committed.up + 4490 ≤ row.power.up * backed.profile.nat .margin / 4096 ∧
      row.required.up + (energyRequirement ⟨4490, 0⟩ (.trig 300 30 10 60)).up
        ≤ row.energy.up * backed.profile.nat .margin / 4096) :=
  ⟨⟨⟨rfl, rfl, rfl, rfl⟩, by decide +kernel⟩, backed_book, by decide +kernel⟩

theorem witness_AwardChecksRefuseInOrder :
    (Serves clocked .award .market [0#8] ∧ field [0#8] 0 1 < 1) ∧
    (Serves clocked .award .market (9#8 :: List.replicate 252 0#8) ∧
      8 < field (9#8 :: List.replicate 252 0#8) 0 1) ∧
    (Serves clocked .award .market (awardBody 10 202 100 0 2) ∧
      field (awardBody 10 202 100 0 2) 0 1 = 1 ∧ BookSound clocked ∧
      awardRecords (awardBody 10 202 100 0 2) = [awardRecord 10 202 100 0 2] ∧
      (awardRecord 10 202 100 0 2).start ≤ clocked.clock.slot) ∧
    (awardRecords (awardBody 11 203 100 0 2) = [awardRecord 11 203 100 0 2] ∧
      clocked.clock.slot < (awardRecord 11 203 100 0 2).start ∧
      clocked.clock.slot + 192 < (awardRecord 11 203 100 0 2).stop) ∧
    (awardRecords (awardBody 11 202 100 10 2) = [awardRecord 11 202 100 10 2] ∧
      (awardRecord 11 202 100 10 2).stop ≤ clocked.clock.slot + 192) ∧
    (awardRecords (awardBody 11 202 100 9 2) = [awardRecord 11 202 100 9 2] ∧
      awardSnapshot clocked.profile (awardRecord 11 202 100 9 2) = some (.trig 300 30 10 60) ∧
      ({ clocked with book := ⟨[], none, 0⟩ } : State).book.nextSeq = none ∧
      clocked.book.nextSeq ≠ none ∧ clocked.book.records.length < 64) ∧
    (∃ row ∈ clocked.plan.all, row.slot = some 11 ∧ 10 ≤ (awardRecord 11 202 100 9 2).capacity.up ∧
      row.power.up * clocked.profile.nat .margin / 4096 < row.committed.up + 100) :=
  ⟨⟨⟨rfl, rfl, rfl, rfl⟩, by decide +kernel⟩, ⟨⟨rfl, rfl, rfl, by decide +kernel⟩, by decide +kernel⟩,
    ⟨⟨rfl, rfl, rfl, rfl⟩, by decide +kernel, clocked_book, by decide +kernel⟩, by decide +kernel⟩

theorem witness_AdmissionStaysWithinTheMargin :
    BookSound backed ∧ ∃ t, backed.takeAward (awardRecord 11 202 4490 0 2) = (t, .admitted 1) :=
  ⟨backed_book, (backed.takeAward (awardRecord 11 202 4490 0 2)).1, Prod.ext rfl (by decide +kernel)⟩

theorem witness_WithdrawAndReleaseRemove :
    (Serves booked .withdraw .market (be 2 (1#16).toNat) ∧ booked.book.find (1#16).toNat = some waitingTrig ∧
      waitingTrig.isPending = true) ∧
    (Serves booked .release .operator (be 2 (1#16).toNat) ∧ waitingTrig.isPending ≠ false) ∧
    (Serves (forced (.ready 0)) .release .operator (be 2 (2#16).toNat) ∧
      (forced (.ready 0)).book.find (2#16).toNat = some (forcedTrig (.ready 0)) ∧
      (forcedTrig (.ready 0)).isPending = false) ∧
    booked.book.find (2#16).toNat = none :=
  ⟨⟨⟨rfl, rfl, rfl, rfl⟩, rfl, rfl⟩, ⟨⟨rfl, rfl, rfl, rfl⟩, by decide⟩,
    ⟨⟨rfl, rfl, rfl, rfl⟩, rfl, rfl⟩, rfl⟩

/-- A log of one record, number 46. -/
def logged : State :=
  { hot with delivery := ⟨none, [(⟨46, 2040, 312, 2040, 333, [], false, 8000, ⟨43, 23, 20, 19, 3⟩, 25,
      .short, true⟩ : EpisodeRecord)], some 47⟩ }

theorem logged_delivery : DeliverySound logged := by
  refine ⟨hot_thermal, fun e h => (nomatch h), ?_, by decide, by decide, ?_⟩
  · intro n h; cases h; decide
  · intro r h; simp [logged] at h; subst h; simp [Accumulators.ordered]

/-- Booked, the Market Port's book cursor open at a key; logged, its log cursor open at a number. -/
def bookAt (key : Key) : State :=
  { booked with market := { PortState.afterReset with bookCursor := .opened (some key) } }

def logAt (n : Nat) : State :=
  { logged with market := { PortState.afterReset with logCursor := .opened (some n) } }

theorem witness_WalksFollowTheirKeys :
    Serves booked .bookOpen .market [] ∧
    (Serves booked .bookNext .market [] ∧ (booked.port .market).bookCursor = .closed) ∧
    (Serves (bookAt (12, 1)) .bookNext .market [] ∧
      ((bookAt (12, 1)).port .market).bookCursor = .opened (some (12, 1)) ∧
      ∀ c ∈ (bookAt (12, 1)).book.records, keyLess (12, 1) c.key = false) ∧
    (Serves (bookAt (11, 9)) .bookNext .market [] ∧
      ((bookAt (11, 9)).port .market).bookCursor = .opened (some (11, 9)) ∧
      BookSound (bookAt (11, 9)) ∧ waitingTrig ∈ (bookAt (11, 9)).book.records ∧
      keyLess (11, 9) waitingTrig.key = true ∧ ∀ d ∈ (bookAt (11, 9)).book.records, d = waitingTrig) ∧
    Serves logged .logOpen .market [] ∧
    (Serves logged .logNext .market [] ∧ (logged.port .market).logCursor = .closed) ∧
    (Serves (logAt 46) .logNext .market [] ∧
      ((logAt 46).port .market).logCursor = .opened (some 46) ∧
      ∀ r ∈ (logAt 46).delivery.log, r.number ≤ 46) ∧
    (Serves (logAt 45) .logNext .market [] ∧
      ((logAt 45).port .market).logCursor = .opened (some 45) ∧ DeliverySound (logAt 45) ∧
      ∃ r ∈ (logAt 45).delivery.log, 45 < r.number ∧ ∀ q ∈ (logAt 45).delivery.log, r.number ≤ q.number) :=
  ⟨⟨rfl, rfl, rfl, rfl⟩, ⟨⟨rfl, rfl, rfl, rfl⟩, rfl⟩,
    ⟨⟨rfl, rfl, rfl, rfl⟩, rfl, by decide⟩,
    ⟨⟨rfl, rfl, rfl, rfl⟩, rfl, booked_book, by decide, by decide, by decide⟩, ⟨rfl, rfl, rfl, rfl⟩,
    ⟨⟨rfl, rfl, rfl, rfl⟩, rfl⟩, ⟨⟨rfl, rfl, rfl, rfl⟩, rfl, by decide⟩,
    ⟨rfl, rfl, rfl, rfl⟩, rfl, logged_delivery, by decide⟩

theorem witness_EveryStepKeepsTheBook :
    BookSound { booked with pending := [.slotBoundary] } ∧
    ∃ t, step { booked with pending := [.slotBoundary] } = .next t := ⟨booked_book, _, rfl⟩

/-! #### Fleet Table -/

/-- An ENROL body, and a UNIT-MODE body. -/
def enrolBody (a mode flags up down g : Nat) : List Byte :=
  be 1 a ++ be 1 mode ++ be 1 flags ++ be 4 up ++ be 4 down ++ be 2 g

def modeBody (a mode flags up down : Nat) : List Byte :=
  be 1 a ++ be 1 mode ++ be 1 flags ++ be 4 up ++ be 4 down

theorem witness_EnrolCreatesTheRecord :
    (Serves fleeted .enrol .market (enrolBody 0 1 0 0 0 0) ∧ field (enrolBody 0 1 0 0 0 0) 0 1 < 1) ∧
    (Serves fleeted .enrol .market (enrolBody 241 1 0 0 0 0) ∧
      240 < field (enrolBody 241 1 0 0 0 0) 0 1) ∧
    (Serves fleeted .enrol .market (enrolBody 1 2 1 655351 0 0) ∧
      (field (enrolBody 1 2 1 655351 0 0) 2 1).testBit 0 = true ∧
      655350 < field (enrolBody 1 2 1 655351 0 0) 3 4) ∧
    (Serves fleeted .enrol .market (enrolBody 1 1 2 0 0 4097) ∧
      4096 < field (enrolBody 1 1 2 0 0 4097) 11 2) ∧
    (Serves fleeted .enrol .market (enrolBody 17 2 3 655350 655350 4096) ∧
      (Fleet.get fleeted.fleet 17).isSome = true) ∧
    (Serves fleeted .enrol .market (enrolBody 240 2 3 655350 655350 4096) ∧
      field (enrolBody 240 2 3 655350 655350 4096) 0 1 = 240 ∧
      field (enrolBody 240 2 3 655350 655350 4096) 3 4 = 655350 ∧
      field (enrolBody 240 2 3 655350 655350 4096) 11 2 = 4096 ∧
      Fleet.get fleeted.fleet 240 = none) := by
  refine ⟨⟨⟨rfl, rfl, rfl, rfl⟩, ?_⟩, ⟨⟨rfl, rfl, rfl, rfl⟩, ?_⟩, ⟨⟨rfl, rfl, rfl, rfl⟩, ?_⟩,
    ⟨⟨rfl, rfl, rfl, rfl⟩, ?_⟩, ⟨⟨rfl, rfl, rfl, rfl⟩, ?_⟩, ⟨rfl, rfl, rfl, rfl⟩, ?_⟩ <;>
  decide +kernel

theorem witness_RetireVacatesTheEntry :
    Serves fleeted .retire .market [0#8] ∧ Serves fleeted .retire .market [241#8] ∧
    (Serves fleeted .retire .market [240#8] ∧ Fleet.get fleeted.fleet (240#8).toNat = none) ∧
    (Serves (visiting .sending) .retire .market [17#8] ∧
      Fleet.get (visiting .sending).fleet (17#8).toNat = some (unit17 4096) ∧
      (visiting .sending).link.visit = some visit17) ∧ fleeted.link.visit = none :=
  ⟨⟨rfl, rfl, rfl, rfl⟩, ⟨rfl, rfl, rfl, rfl⟩, ⟨⟨rfl, rfl, rfl, rfl⟩, rfl⟩,
    ⟨⟨rfl, rfl, rfl, rfl⟩, rfl, rfl⟩, rfl⟩

/-- Unit 17 under test, one report of 2,300 W counted (2.7 event 4). -/
def tested : UnitRecord := { unit17 4096 with mode := .test ⟨0, .auto, -200, 2500, 30, 2, 2300⟩ }

def testing : State := { State.reset with fleet := [(17, tested)] }

theorem witness_UnitModeChangesTheMode :
    (Serves fleeted .unitMode .market (modeBody 17 2 0 0 0) ∧
      field (modeBody 17 2 0 0 0) 1 1 = 2 ∧ (field (modeBody 17 2 0 0 0) 2 1).testBit 0 = false) ∧
    (Serves fleeted .unitMode .market (modeBody 17 3 0 0 0) ∧ 2 < field (modeBody 17 3 0 0 0) 1 1) ∧
    (Serves fleeted .unitMode .market (modeBody 240 2 1 655350 655350) ∧
      Fleet.get fleeted.fleet (field (modeBody 240 2 1 655350 655350) 0 1) = none) ∧
    (Serves testing .unitMode .market (modeBody 17 0 0 0 0) ∧
      Fleet.get testing.fleet (field (modeBody 17 0 0 0 0) 0 1) = some tested ∧
      tested.mode = .test ⟨0, .auto, -200, 2500, 30, 2, 2300⟩) ∧
    (Serves fleeted .unitMode .market (modeBody 17 2 3 655350 655350) ∧
      Fleet.get fleeted.fleet (field (modeBody 17 2 3 655350 655350) 0 1) = some (unit17 4096) ∧
      (unit17 4096).mode = .plain .auto) := by
  refine ⟨⟨⟨rfl, rfl, rfl, rfl⟩, ?_⟩, ⟨⟨rfl, rfl, rfl, rfl⟩, ?_⟩, ⟨⟨rfl, rfl, rfl, rfl⟩, ?_⟩,
    ⟨⟨rfl, rfl, rfl, rfl⟩, ?_⟩, ⟨rfl, rfl, rfl, rfl⟩, ?_⟩ <;>
  decide +kernel

theorem testing_fleet : FleetSound testing := by
  refine ⟨by decide, by decide, ?_, by decide, empty_list, empty_list, fun _ _ _ h => (nomatch h)⟩
  intro e h; simp [testing] at h; subst h
  refine ⟨by decide, by decide, by decide, ⟨rfl, by decide, trivial, by decide, by decide⟩, fun _ => rfl,
    ?_, by decide, by decide, by decide, by decide, by decide, by decide, ?_, by decide⟩
  · intro r h; cases h; simp [Report.sound, report17]
  · intro r h; cases h; decide

theorem witness_TestsStartAndComplete :
    Serves fleeted .unitTest .market [0#8] ∧ Serves fleeted .unitTest .market [240#8] ∧
    (Serves testing .unitTest .market [17#8] ∧ Fleet.get testing.fleet (17#8).toNat = some tested ∧
      ∃ e ∈ testing.fleet, e.2.inTest = true) ∧
    (Serves delivering .unitTest .market [17#8] ∧ (∀ e ∈ delivering.fleet, e.2.inTest = false) ∧
      delivering.delivery.episode.isSome = true) ∧
    (Serves fleeted .unitTest .market [17#8] ∧ Fleet.get fleeted.fleet (17#8).toNat = some (unit17 4096) ∧
      (∀ e ∈ fleeted.fleet, e.2.inTest = false) ∧ (unit17 4096).link = .live ∧
      (unit17 4096).bars = ⟨false, false, false⟩ ∧ (unit17 4096).mode = .plain .auto ∧
      fleeted.delivery.episode = none ∧ (unit17 4096).report = some report17 ∧
      10 ≤ report17.maxDischarge * fleeted.profile.nat .testFraction / 100) ∧
    (testing.running = true ∧ FleetSound testing ∧ Fleet.get testing.fleet 17 = some tested ∧
      tested.mode = .test ⟨0, .auto, -200, 2500, 30, 2, 2300⟩) :=
  ⟨⟨rfl, rfl, rfl, rfl⟩, ⟨rfl, rfl, rfl, rfl⟩, ⟨⟨rfl, rfl, rfl, rfl⟩, by decide +kernel⟩,
    ⟨⟨rfl, rfl, rfl, rfl⟩, by decide +kernel⟩, ⟨⟨rfl, rfl, rfl, rfl⟩, by decide +kernel⟩, rfl, testing_fleet,
    by decide +kernel⟩

theorem witness_EveryStepKeepsTheFleet :
    FleetSound { testing with pending := [.dispatchCycle] } ∧
    ∃ t, step { testing with pending := [.dispatchCycle] } = .next t := ⟨testing_fleet, _, rfl⟩

/-! #### Headroom and risk -/

theorem witness_LiveHeadroomIsSustainable :
    (UnitRecord.enrolled .auto 4096).eligible = false ∧
    (∃ h ∈ [(⟨2040, 2040, .withdraw⟩ : Hold)], h.kind = .withdraw ∧ h.covers (some 2040) = true) ∧
    (unit17 4096).report = some report17 ∧ (unit17 4096).g ≤ 4096 ∧
    0 < Profile.factory.nat .dispatchEndurance ∧
    (unit17 4096).eligible = true ∧ (unit17 4096).link = .live ∧
    (unit17 4096).bars = ⟨false, false, false⟩ ∧ (unit17 4096).mode ≠ .plain .off ∧
    (∀ h ∈ (unit17 4096).holds, h.kind = .withdraw → h.covers (some 2040) = false) ∧
    (UnitRecord.enrolled .auto 4096).link ≠ .live ∧
    ∀ x, 2000 ≤ x ↔ report17.floor ≤ x ∧
      report17.capacity * Profile.factory.nat .technicalFloor / 100 ≤ x ∧
      ∀ h ∈ (unit17 4096).holds, ∀ e, h.kind = .floor e → h.covers (some 2040) = true → e ≤ x := by
  refine ⟨by decide, by decide, by decide, by decide, by decide +kernel, by decide, by decide, by decide,
    by decide, (fun h m => nomatch m), by decide, fun x => ?_⟩
  have : report17.capacity * Profile.factory.nat .technicalFloor / 100 = 1350 := by decide +kernel
  rw [this]
  exact ⟨fun h => ⟨h, by omega, fun k m => nomatch m⟩, fun h => h.1⟩

/-- Two TRIG commitments over one availability record, and one pending over one row, that only the earlier
fits, so the later alone is marked (3.5). -/
theorem witness_LatestAcceptedAreMarkedFirst :
    let a : Availability := { Availability.initial with
      power := ⟨10000, 0⟩, energy := ⟨84, 0⟩, forceCapacity := ⟨20000, 0⟩, forceRequirement := ⟨168, 0⟩ }
    let l := [forcedTrig (.ready 0), { forcedTrig (.ready 0) with id := 3, seq := 2 }]
    (l.map Commitment.id).Nodup ∧ (l.map Commitment.seq).Nodup ∧ liveCheck a l .up = [3] ∧
    (let row : PlanRow := ⟨some 12, ⟨150, 0⟩, ⟨10, 0⟩, ⟨200, 0⟩, ⟨2, 0⟩⟩
     planningCheck 4096 [waitingTrig, { waitingTrig with id := 3, seq := 2 }] row .up = [3]) ∧
    a.forceCapacity.get .down ≤ a.power.get .down ∧
    a.forceRequirement.get .down ≤ a.energy.get .down := by decide +kernel

theorem witness_RoundCompletionEvaluates :
    (fleeted.running = true ∧ fleeted.link.roundTimer.isSome = true ∧ fleeted.link.phase = .pacing) ∧
    (let s : State := { visiting (.quiet ⟨0, 1000⟩ ⟨0, 10000⟩) with
        link := { (visiting (.quiet ⟨0, 1000⟩ ⟨0, 10000⟩)).link with roundTimer := none } }
     s.running = true ∧ s.link.roundTimer = none ∧ s.link.phase = .quiet ⟨0, 1000⟩ ⟨0, 10000⟩ ∧
       s.link.ahead.find? (fun b => (Fleet.get s.fleet b).any fun w =>
        w.link != .lost || s.link.round % 10 == 0) = none) ∧
    ((visiting .sending).link.roundTimer.isSome = true ∧ (visiting .sending).link.phase ≠ .pacing) ∧
    (delivering.delivery.episode = some episode47 ∧ fleeted.delivery.episode = none) ∧
    ((walkOrder 2).find? (fun b => (Fleet.get fleeted.fleet b).any fun w => w.link != .lost || 1 % 10 == 0)
        = some 17 ∧ Fleet.get fleeted.fleet 17 = some (unit17 4096)) ∧
    ((after .roundTimerExpiry clocked).marked = clocked.marked ∧
      (after .roundTimerExpiry booked).marked = [1] ∧ booked.marked = []) := by
  decide +kernel

/-! #### Measurement -/

theorem witness_EdgesFormPeriods :
    (relayed.running = true ∧ relayed.straps.fsrcHigh = true) ∧
    (State.reset.running = true ∧ State.reset.straps.fsrcHigh = false ∧
      State.reset.meter.previous = none) ∧
    (metered.running = true ∧ metered.straps.fsrcHigh = false ∧
      metered.meter.previous = some 16700000 ∧ metered.meter.state ≠ .lost) ∧
    (181818 ≤ ((104602#24 : Capture) - 16700000#24).toNat ∧
      ((104602#24 : Capture) - 16700000#24).toNat ≤ 222222) ∧
    ¬181818 ≤ ((104601#24 : Capture) - 16700000#24).toNat ∧
    (let s : State := { metered with meter := { validMeter with badRun := 2 } }
     s.meter.state = .valid ∧ 3 ≤ min 255 (s.meter.badRun + 1) ∧
      (after (.lrefEdge 104601) s).meter.state ≠ s.meter.state) := by decide +kernel

theorem witness_SilentInputsLoseTheMeter :
    (metered.running = true ∧ metered.meter.lossCompare = some 16700000 ∧ metered.meter.state ≠ .lost) ∧
    (let s : State := { relayed with meter :=
        ⟨0, none, [], 0, .valid, some 59950, none, some ⟨0, 10000000⟩⟩ }
     s.running = true ∧ s.meter.silence = some ⟨0, 10000000⟩ ∧ s.meter.state = .valid) ∧
    (let s : State := { relayed with meter := ⟨0, none, [], 1, .lost, none, none, some ⟨0, 10000000⟩⟩ }
     s.running = true ∧ s.meter.silence = some ⟨0, 10000000⟩ ∧ s.meter.state = .lost) := by
  decide +kernel

theorem witness_RelayedReadingsAreJudged :
    (Serves relayed .freq .operator (be 4 55000) ∧
      relayed.nominal - 5000 ≤ field (be 4 55000) 0 4 ∧ field (be 4 55000) 0 4 ≤ relayed.nominal + 5000) ∧
    (Serves relayed .freq .operator (be 4 65000) ∧ field (be 4 65000) 0 4 ≤ relayed.nominal + 5000) ∧
    (Serves relayed .freq .operator (be 4 65001) ∧ ¬field (be 4 65001) 0 4 ≤ relayed.nominal + 5000) :=
  ⟨⟨⟨rfl, rfl, rfl, rfl⟩, by decide +kernel⟩, ⟨⟨rfl, rfl, rfl, rfl⟩, by decide +kernel⟩,
    ⟨rfl, rfl, rfl, rfl⟩, by decide +kernel⟩

theorem metered_meter : MeterSound metered := by
  refine ⟨by decide, ?_, by decide, rfl, by decide +kernel, rfl⟩
  intro f h; cases h; decide

theorem witness_EveryStepKeepsTheMeter :
    MeterSound { metered with pending := [.lrefEdge 122784] } ∧
    ∃ t, step { metered with pending := [.lrefEdge 122784] } = .next t := ⟨metered_meter, _, rfl⟩

theorem witness_ConversionsWriteTheChannels :
    State.reset.running = true ∧ State.reset.analog.converting = .ia :: [.ib, .ic, .pnet] ∧
    0 ≤ State.reset.profile.get .powerScale := by decide +kernel

theorem witness_ThermalUpdateStepsTheModel :
    (hot.running = true ∧ hot.profile.get .thetaLo < hot.profile.get .thetaHi ∧
      hot.profile.get .thetaHi < hot.profile.get .thetaCrit ∧ hot.analog.ia.present = false ∧
      hot.analog.ib.present = false ∧ hot.analog.ic.present = false) ∧
    ({ hot with analog := { hot.analog with ia := ⟨2253, 440, true, false⟩ } } : State).analog.ia.present
      = true := by decide +kernel

theorem witness_EveryStepKeepsTheThermalModel :
    ThermalSound { hot with pending := [.thermalUpdate] } ∧
    ∃ t, step { hot with pending := [.thermalUpdate] } = .next t := ⟨hot_thermal, _, rfl⟩

/-! #### Levels -/

theorem witness_OperatorTargetAges :
    Serves State.reset .level .operator (be 4 2048) ∧
    (let s : State := { State.reset with levels := ⟨0, 2048, .current, some ⟨0, 300000000⟩⟩ }
     s.running = true ∧ s.levels.ageTimer = some ⟨0, 300000000⟩ ∧ s.levels.age = .current) :=
  ⟨⟨rfl, rfl, rfl, rfl⟩, by decide +kernel⟩

/-- An OVERRUN record FIRING with a release ramp of 0. -/
def lastPulse : Commitment :=
  { forcedTrig (.firing ⟨0, 300000000⟩) with
    snapshot := .trig 300 30 0 60, standing := .overrun ⟨4096, 10000, .trig (.firing ⟨0, 300000000⟩)⟩ }

theorem witness_TrigRecordsFollowTheirPhases :
    ((forced (.firing ⟨0, 300000000⟩)).running = true ∧
      (forced (.firing ⟨0, 300000000⟩)).book.find (2#16).toNat
        = some (forcedTrig (.firing ⟨0, 300000000⟩)) ∧
      (forcedTrig (.firing ⟨0, 300000000⟩)).snapshot = .trig 300 30 10 60 ∧
      (forcedTrig (.firing ⟨0, 300000000⟩)).standing
        = .inForce ⟨0, 0, .trig (.firing ⟨0, 300000000⟩)⟩) ∧
    (lastPulse.snapshot = .trig 300 30 0 60 ∧
      lastPulse.standing = .overrun ⟨4096, 10000, .trig (.firing ⟨0, 300000000⟩)⟩ ∧
      (⟨[lastPulse], none, 2⟩ : Book).find (2#16).toNat = some lastPulse) ∧
    ((forced (.lockout ⟨0, 600000000⟩)).book.find (2#16).toNat
        = some (forcedTrig (.lockout ⟨0, 600000000⟩)) ∧
      (forcedTrig (.lockout ⟨0, 600000000⟩)).standing
        = .inForce ⟨0, 0, .trig (.lockout ⟨0, 600000000⟩)⟩) ∧
    (49700 + 300 ≤ 50000 ∧ ¬49701 + 300 ≤ 50000) := by decide +kernel

theorem forced_book : BookSound (forced (.releasing 50)) := by
  refine ⟨by decide, by decide, by decide, by decide, by decide, by decide, by decide, ?_, ?_,
    fun h => absurd h (by decide), ?_, by decide +kernel, rfl⟩
  · intro n h; cases h; decide
  · intro c h; simp [forced] at h; subst h; simp [Commitment.wellFormed, forcedTrig, maxWord]
  · intro _; refine ⟨⟨by decide +kernel, by decide +kernel⟩, ?_⟩
    intro c h; simp [forced] at h; subst h; simp [Commitment.placed, forcedTrig, forced, clocked]

/-- A TRIG commitment in OVERRUN since slot 12, at the last count of its release ramp. -/
def lastCount : Commitment :=
  { forcedTrig (.releasing 1) with standing := .overrun ⟨81, 197, .trig (.releasing 1)⟩ }

/-- The book with that commitment alone, the clock in slot 12. -/
def ending : State :=
  { State.reset with
    clock := ⟨true, 12, 0, 0⟩, plan := Plan.build .factory [] 12, book := ⟨[lastCount], some 2, 2⟩ }

theorem ending_book : BookSound ending := by
  refine ⟨by decide, by decide, by decide, by decide, by decide, by decide, by decide, ?_, ?_,
    fun h => absurd h (by decide), ?_, by decide +kernel, rfl⟩
  · intro n h; cases h; decide
  · intro c h; simp [ending] at h; subst h; simp [Commitment.wellFormed, lastCount, forcedTrig, maxWord]
  · intro _; refine ⟨⟨by decide +kernel, by decide +kernel⟩, ?_⟩
    intro c h; simp [ending] at h; subst h; simp [Commitment.placed, lastCount, forcedTrig, ending]

theorem witness_CycleComputationWritesLevels :
    ((⟨0, 50000, 49990, 0, 0⟩ : CycleInputs).latest ≤ 50000 + 10 ∧ 50000 ≤ 49990 + 10 ∧
      49989 + 10 < 50000 ∧ 50000 + 10 < 50011 ∧ 10 < 200) ∧
    (forcedTrig (.releasing 1)).snapshot = .trig 300 30 10 60 ∧
    (⟨4096, 10000, .trig (.releasing 1)⟩ : LevelRecord).follower = .trig (.releasing (0 + 1)) ∧
    (⟨2048, 10000, .setp 27⟩ : LevelRecord).follower = .setp 27 ∧
    BookSound (forced (.releasing 50)) ∧ BookSound ending ∧
    ending.cycleComputation.book.records.length < ending.book.records.length :=
  ⟨by decide, by decide, by decide, by decide, forced_book, ending_book, by decide +kernel⟩

theorem forced_levels : LevelsSound (forced (.releasing 50)) := by
  refine ⟨by decide, by decide, by decide, ?_⟩
  intro c h l hl; simp [forced] at h; subst h
  simp [Commitment.level, forcedTrig] at hl; subst hl
  refine ⟨by decide, by decide, by decide, by decide, by decide, by decide, by decide, ?_⟩
  intro d sup ramp lockout left h1 h2; cases h1; cases h2; decide

theorem witness_EveryStepKeepsTheLevels :
    LevelsSound { forced (.releasing 50) with pending := [.dispatchCycle] } ∧
    ∃ t, step { forced (.releasing 50) with pending := [.dispatchCycle] } = .next t :=
  ⟨forced_levels, _, rfl⟩

/-! #### Dispatch -/

theorem witness_FleetSumsOnlyShrink :
    hot.thermal.factor ≤ 4096 ∧ State.reset.thermal.zone = .normal ∧
    (formResult [⟨1, .prop, 4096, 12345⟩] hot.thermal fourUnits).permitted = 6172 ∧
    0 ≤ (formResult [⟨1, .prop, 4096, 12345⟩] hot.thermal fourUnits).required ∧
    (formResult [⟨1, .prop, -4096, -12345⟩] hot.thermal fourUnits).required ≤ 0 ∧
    (unit17 4096).eligible = true ∧ (unit17 4096).mode = .plain .auto ∧
    (fourUnits.any fun e => e.2.eligible && e.2.mode == .plain (.manual ⟨3000, 2000⟩)) = true ∧
    (UnitRecord.enrolled .auto 4096).eligible = false := by decide +kernel

theorem witness_SharesSumToTheCap :
    fleeted.running = true ∧ FleetSound fleeted ∧ Fleet.get fleeted.fleet 17 = some (unit17 4096) :=
  ⟨rfl, fleeted_fleet, rfl⟩

theorem witness_DispatchCycleWritesSetpoints :
    (fleeted.running = true ∧ fleeted.fleet[0]? = some (17, unit17 4096) ∧
      (unit17 4096).report = some report17 ∧ (unit17 4096).eligible = true) ∧
    (delivering.delivery.episode.isSome = true) ∧
    (testing.fleet[0]? = some (17, tested) ∧ tested.report = some report17 ∧
      tested.mode = .test ⟨0, .auto, -200, 2500, 30, 2, 2300⟩ ∧ tested.link = .live) ∧
    ((UnitRecord.enrolled .auto 4096).eligible = false ∧
      (UnitRecord.enrolled .auto 4096).mode = .plain .auto) ∧
    (let s : State := { metered with fleet := fleeted.fleet }
     s.running = true ∧ s.delivery.episode = none ∧ s.meter.state = .valid ∧
      0 < s.profile.get .restoration ∧ s.fleet[0]? = some (17, unit17 4096)) ∧
    (UnitRecord.enrolled .auto 4096).link ≠ .live := by decide +kernel

/-! #### Fleet link -/

theorem witness_VisitPhasesAdvance :
    ((visiting .sending).link.roundTimer = some ⟨0, 2000000⟩ ∧ (visiting .sending).link.phase ≠ .pacing ∧
      fleeted.running = true ∧ fleeted.link.roundTimer = some ⟨0, 2000000⟩ ∧
      fleeted.link.phase = .pacing) ∧
    ((visiting .sending).running = true ∧ (visiting .sending).link.phase = .sending ∧
      (visiting .sending).link.visit = some visit17) ∧
    ((visiting (.quiet ⟨0, 1000⟩ ⟨0, 10000⟩)).running = true ∧
      (visiting (.quiet ⟨0, 1000⟩ ⟨0, 10000⟩)).link.phase = .quiet ⟨0, 1000⟩ ⟨0, 10000⟩ ∧
      (visiting (.quiet ⟨0, 1000⟩ ⟨0, 10000⟩)).link.roundTimer.isSome = true ∧
      (visiting (.quiet ⟨0, 1000⟩ ⟨0, 10000⟩)).nextVisit = none) ∧
    (let s : State := { visiting (.quiet ⟨0, 1000⟩ ⟨0, 10000⟩) with
        fleet := [(17, unit17 4096), (240, unit17 4096)] }
     s.link.ahead.find? (fun b => (Fleet.get s.fleet b).any fun w =>
        w.link != .lost || s.link.round % 10 == 0) = some 240 ∧
      Fleet.get s.fleet 240 = some (unit17 4096)) := by decide +kernel

theorem witness_AwaitingEndsWithItsOutcome :
    ((visiting (.awaiting ⟨0, 50000⟩)).running = true ∧
      (visiting (.awaiting ⟨0, 50000⟩)).link.phase = .awaiting ⟨0, 50000⟩ ∧
      (visiting (.awaiting ⟨0, 50000⟩)).link.visit = some visit17 ∧ visit17.removed = false) ∧
    ({ visit17 with removed := true } : Visit).removed = true ∧
    ((19#8).toNat < 20 ∧ 64 < (65#8).toNat) ∧ frameComplete frame17 = true ∧
    (∃ report, judgeFrame visit17.address frame17 = .ok report) ∧
    judgeFrame 18 frame17 = .error .wrongAddress ∧
    (frameComplete (frame17.set 3 0#8) = true ∧
      judgeFrame 17 (frame17.set 3 0#8) = .error .badCheck) ∧
    (frameComplete (holdFrame 20#8 1#8 0#8 []) = true ∧
      judgeFrame 17 (holdFrame 20#8 1#8 0#8 []) = .error .malformed) ∧
    (frameComplete (holdFrame 20#8 2#8 5#8 []) = true ∧
      judgeFrame 17 (holdFrame 20#8 2#8 5#8 []) = .error .malformed) ∧
    (frameComplete (holdFrame 29#8 2#8 1#8 (be 8 0 ++ [3#8])) = true ∧
      ∀ holds : List Hold, holds.length = 1 → ¬CarriesHolds (be 8 0 ++ [3#8]) holds) ∧
    (frameComplete (holdFrame 40#8 2#8 2#8 (twoHolds.flatMap Hold.carried)) = true ∧
      CarriesHolds (twoHolds.flatMap Hold.carried) twoHolds ∧
      judgeFrame 17 (holdFrame 40#8 2#8 2#8 (twoHolds.flatMap Hold.carried))
        = .ok ⟨{ report17 with power := 2100 }, twoHolds⟩) := by
  refine ⟨by decide +kernel, rfl, by decide, by decide +kernel, ?_, by decide +kernel, by decide +kernel,
    by decide +kernel, by decide +kernel, ⟨by decide +kernel, fun holds one carried => ?_⟩,
    by decide +kernel, ⟨rfl, ?_⟩, by decide +kernel⟩
  · exact ⟨⟨{ report17 with power := 2100 }, []⟩, by decide +kernel⟩
  · have none_read : readHolds 1 (be 8 0 ++ [3#8]) = none := by decide +kernel
    have read := (readHolds_iff 1 _ holds).mpr ⟨one, carried⟩
    rw [none_read] at read; cases read
  · intro h hh
    simp only [twoHolds, List.mem_cons, List.not_mem_nil, or_false] at hh
    rcases hh with rfl | rfl
    · exact ⟨by decide, by decide, fun e he => by cases he⟩
    · exact ⟨by decide, by decide, fun e he => by cases he; decide⟩

theorem witness_VisitOutcomesMoveTheRecord :
    (unit17 4096).link = .live ∧ ((unit17 4096).failVisit 1 25).link ≠ .live ∧
    tested.mode = .test ⟨0, .auto, -200, 2500, 30, 2, 2300⟩ ∧
    (tested.link = .live ∧ (tested.failVisit 1 25).link ≠ .live) ∧
    (unit17 4096).mode = .plain .auto ∧ ((unit17 4096).failVisit 3 25).link = .live ∧
    Fleet.get testing.fleet 17 = some tested ∧ Fleet.get testing.fleet 18 = none := by decide +kernel

theorem witness_RoundsPassEachIndexOnce :
    (1 ≤ 240 ∧ 240 ≤ 240 ∧ 239 < 240) ∧ (visiting .sending).link.startIndex = 1 ∧
    (visiting .sending).link.position = some 17 ∧ 17 ∈ walkOrder 1 := by decide +kernel

theorem visiting_link : LinkSound (visiting .sending) := by
  refine ⟨by decide, by decide, ?_, ?_, by decide, by decide, by decide, by decide, by decide, by decide⟩
  · intro v h; cases h; rfl
  · intro a h; cases h; decide

theorem witness_EveryStepKeepsTheFleetLink :
    LinkSound { visiting .sending with pending := [.setpointFrameSent] } ∧
    ∃ t, step { visiting .sending with pending := [.setpointFrameSent] } = .next t :=
  ⟨visiting_link, _, rfl⟩

/-! #### Delivery -/

theorem witness_EpisodesOpenAccrueAndClose :
    (fleeted.takeResult ⟨6000, 6000, 6000, []⟩ = fleeted.takeResult ⟨6000, 6000, 6000, []⟩ ∧
      (6000 : Int).natAbs ≤ 18446744073709551615 ∧ 0 < fleeted.profile.nat .quietPeriod) ∧
    fleeted.delivery.episode = none ∧ fleeted.delivery.nextNumber = some 1 ∧
    delivering.delivery.episode = some episode47 ∧
    fleeted.fleet[0]? = some (17, unit17 4096) ∧ (unit17 4096).link = .live ∧
    ({ episode47 with quiet := 49 } : Episode).quiet + 1 = 5 * Profile.factory.nat .quietPeriod ∧
    (let e : Episode := { episode47 with grace := 0, shortRun := 24, delivered := 4000 }
     6000 ≤ e.previous ∧ e.grace = 0 ∧ e.reported = false ∧
      max (Profile.factory.nat .toleranceFloor) (6000 * Profile.factory.nat .tolerance / 4096)
        < 6000 - min 6000 (e.delivered * (6000 : Int).sign).toNat ∧
      Profile.factory.nat .shortRunLimit ≤ min 255 (e.shortRun + 1)) ∧
    (6000 ≤ episode47.previous ∧ 0 < episode47.grace) ∧
    (∃ e ∈ [(⟨1, .prop, 5⟩ : Contributor)], e.id = 1) ∧
    8 ≤ (List.replicate 8 (⟨1, .prop, 5⟩ : Contributor)).length := by
  refine ⟨⟨rfl, by decide, by decide +kernel⟩, rfl, rfl, rfl, rfl, rfl, by decide +kernel⟩

theorem witness_EveryStepKeepsTheDeliveryAccount :
    DeliverySound { logged with pending := [.dispatchCycle] } ∧
    ∃ t, step { logged with pending := [.dispatchCycle] } = .next t := ⟨logged_delivery, _, rfl⟩

/-! #### Parameters and profiles -/

/-- A PARAM-SET body. -/
def paramBody (id : Nat) (v : Int) : List Byte := be 1 id ++ beInt 4 v

theorem witness_ParamSetWritesOneParameter :
    (Serves State.reset .paramSet .market (paramBody 0x2B 0) ∧
      ParamId.ofCode (field (paramBody 0x2B 0) 0 1) = none) ∧
    (Serves State.reset .paramSet .market (paramBody 0x27 2) ∧
      ParamId.ofCode (field (paramBody 0x27 2) 0 1) = some .marketAttention ∧
      fieldInt (paramBody 0x27 2) 1 4 ≠ 0 ∧ fieldInt (paramBody 0x27 2) 1 4 ≠ 1) ∧
    (Serves State.reset .paramSet .market (paramBody 0x27 1) ∧
      fieldInt (paramBody 0x27 1) 1 4 = 1 ∧ ParamId.range .marketAttention = .mode) ∧
    (Serves State.reset .paramSet .market (paramBody 0x1E 95000) ∧
      ParamId.ofCode (field (paramBody 0x1E 95000) 0 1) = some .thetaLo ∧
      ParamId.range .thetaLo = .numeric 30000 180000 ∧
      fieldInt (paramBody 0x1E 95000) 1 4 = 95000 ∧
      State.reset.profile.get .thetaHi = 95000) ∧
    (Serves State.reset .paramSet .market (paramBody 0x1D (-20001)) ∧
      ParamId.ofCode (field (paramBody 0x1D (-20001)) 0 1) = some .ambient ∧
      max (-20000) (min 50000 (fieldInt (paramBody 0x1D (-20001)) 1 4)) = -20000) ∧
    (Serves State.reset .paramSet .market (paramBody 0x2A (-1)) ∧
      ParamId.ofCode (field (paramBody 0x2A (-1)) 0 1) = some .operatorEnables ∧
      ((fieldInt (paramBody 0x2A (-1)) 1 4 % 4294967296).toNat &&& 0x1FF : Nat) = 0x1FF) := by
  refine ⟨⟨⟨rfl, rfl, rfl, rfl⟩, ?_⟩, ⟨⟨rfl, rfl, rfl, rfl⟩, ?_⟩, ⟨⟨rfl, rfl, rfl, rfl⟩, ?_⟩,
    ⟨⟨rfl, rfl, rfl, rfl⟩, ?_⟩, ⟨⟨rfl, rfl, rfl, rfl⟩, ?_⟩, ⟨rfl, rfl, rfl, rfl⟩, ?_⟩ <;>
  decide +kernel

theorem witness_ParametersAreReadBack :
    Serves State.reset .paramRead .operator [0x2A#8] ∧ Serves State.reset .paramRead .operator [0x2B#8] ∧
    (Serves State.reset .paramDescribe .market [0#8] ∧ ParamId.ofCode (0#8).toNat = none) ∧
    ParamId.ofCode (0x27#8).toNat = some .marketAttention :=
  ⟨⟨rfl, rfl, rfl, rfl⟩, ⟨rfl, rfl, rfl, rfl⟩, ⟨⟨rfl, rfl, rfl, rfl⟩, by decide⟩, by decide +kernel⟩

theorem witness_LongRequestsStayInService :
    Serves fleeted .profileSave .market [0#8] ∧ Serves fleeted .profileSave .market [1#8] ∧
    Serves fleeted .profileSave .market [2#8] ∧ Serves fleeted .profileSave .market [3#8] ∧
    2 < (3#8).toNat ∧ (2#8).toNat ≤ 2 ∧ Serves fleeted .restart .market [] :=
  ⟨⟨rfl, rfl, rfl, rfl⟩, ⟨rfl, rfl, rfl, rfl⟩, ⟨rfl, rfl, rfl, rfl⟩, ⟨rfl, rfl, rfl, rfl⟩, by decide,
    by decide, ⟨rfl, rfl, rfl, rfl⟩⟩

theorem witness_StoreWritesEndValid :
    let writing (w : StoreWrite) : State :=
      { crowded with store := { Store.manufactured with write := some w } }
    (writing (.image false .factory [])).running = true ∧
    (writing (.image false .factory [])).market.service = some ⟨.profileSave, 1#8⟩ ∧
    (writing (.image false .factory [])).store.write = some (.image false .factory []) ∧
    (writing (.image true .factory [])).store.write = some (.image true .factory []) ∧
    (writing (.selector .two)).store.write = some (.selector .two) := ⟨rfl, rfl, rfl, rfl, rfl⟩

theorem witness_ProfileLoadRebuildsTheTable :
    (Serves fleeted .profileLoad .market [3#8] ∧ 2 < (3#8).toNat) ∧
    (Serves (forced (.ready 0)) .profileLoad .market [2#8] ∧
      ∃ c ∈ (forced (.ready 0)).book.records, c.isPending = false) ∧
    (let s : State := { booked with store := { Store.manufactured with slot2 := ⟨.factory, [], false⟩ } }
     Serves s .profileLoad .market [2#8] ∧ (∀ c ∈ s.book.records, c.isPending = true) ∧
       s.store.slot2.valid = false ∧ s.store.slot1.valid = true) ∧
    (Serves (visiting .sending) .profileLoad .market [1#8] ∧
      (visiting .sending).link.visit = some visit17) ∧
    (Serves testing .profileLoad .market [0#8] ∧ testing.link.visit = none ∧
      ∃ e ∈ testing.fleet, e.2.inTest = true) ∧
    (let s : State := { pulsing with store := pulseStore true }
     Serves s .profileLoad .market [1#8] ∧ PortsSound s ∧ s.store.slot1.valid = true ∧
      s.store.slot1.profile.pulseMode .market = true ∧ s.market.line = true) ∧
    (let s : State := { State.reset with store := pulseStore true }
     Serves s .profileLoad .market [1#8] ∧ s.profile.pulseMode .market = false) :=
  ⟨⟨⟨rfl, rfl, rfl, rfl⟩, by decide⟩, ⟨⟨rfl, rfl, rfl, rfl⟩, by decide +kernel⟩,
    ⟨⟨rfl, rfl, rfl, rfl⟩, by decide +kernel⟩, ⟨⟨rfl, rfl, rfl, rfl⟩, rfl⟩, ⟨⟨rfl, rfl, rfl, rfl⟩,
    by decide +kernel⟩, ⟨⟨rfl, rfl, rfl, rfl⟩, pulsing_ports, by decide +kernel⟩,
    ⟨rfl, rfl, rfl, rfl⟩, by decide +kernel⟩

end Sys2Proof.Tests
end

/-! PROOFS. WITHDRAW and RELEASE (R14, R15). -/

namespace Sys2Proof.Machine

@[simp] theorem State.heard_enter_book (s : State) (port : Port) (kind : RequestKind) (tag : Byte) :
    ((s.heard port).enter port kind tag).book = s.book := by
  rw [State.heard_enter_eq, State.setPort_book]

/-- A served request finds no request in service (R155 case 5). -/
theorem Serves.idle {s : State} {kind : RequestKind} {port : Port} {body : List Byte}
    (serves : Serves s kind port body) : (s.port port).service = none := by
  obtain ⟨-, idle, -, -⟩ := serves
  exact idle

/-- A commitment's leaving takes no notice of the request in service. -/
theorem State.removeCommitment_heard_enter (s : State) (port : Port) (kind : RequestKind) (tag : Byte)
    (c : Commitment) :
    ((s.heard port).enter port kind tag).removeCommitment c
      = ((s.removeCommitment c).heard port).enter port kind tag := by
  rw [State.removeCommitment, State.removeCommitment, ← State.post_heard_enter]
  cases port <;> rfl

theorem State.removeCommitment_port_service (s : State) (c : Commitment) (port : Port) :
    ((s.removeCommitment c).port port).service = (s.port port).service := by
  rw [State.removeCommitment, State.post_port_service]
  cases port <;> rfl

/-- A commitment found under an id carries that id. -/
theorem Book.find_id {b : Book} {id : Nat} {c : Commitment} (h : b.find id = some c) : c.id = id := by
  simpa using List.find?_some h

/-- The answer R14 and R15 share: the record found leaves the book where it is PENDING as the request
requires. -/
def answerRemoval (pending : Bool) (body : List Byte) (s : State) : State × Answer :=
  match s.book.find (field body 0 2) with
  | none => (s, .refused .notFound)
  | some c =>
    if c.isPending = pending then (s.removeCommitment c, .done []) else (s, .refused .wrongState)

theorem answerRemoval_true : answerRemoval true = answerWithdraw := rfl

theorem answerRemoval_false : answerRemoval false = answerRelease := by
  funext body s
  unfold answerRemoval answerRelease
  cases s.book.find (field body 0 2) with
  | none => rfl
  | some c => cases h : c.isPending <;> simp [h]

/-- The row of WITHDRAW or of RELEASE, by the PENDING standing it requires. -/
theorem exec_removal (withdraw : Bool) {kind : RequestKind} {port : Port} (tag : Byte)
    (body : List Byte) (s : State) (hkind : kind = if withdraw then .withdraw else .release) :
    exec (kind.command port tag body) s = request kind port tag body (answerRemoval withdraw body) s := by
  subst hkind
  cases withdraw
  · rw [answerRemoval_false]; rfl
  · rw [answerRemoval_true]; rfl

/-- Settles O24: both rows are one removal, whose three answers are the three clauses. -/
theorem withdrawAndReleaseRemove : Obligations.WithdrawAndReleaseRemove := by
  intro s tag id withdraw kind port hkind _ serves
  rw [exec_removal withdraw tag _ s hkind]
  refine ⟨fun absent => ?_, fun c found other => ?_, fun c found same => ?_⟩
  · apply request_refused serves serves.idle
    simp only [answerRemoval, State.heard_enter_book, field_id, absent]
  · apply request_refused serves serves.idle
    simp only [answerRemoval, State.heard_enter_book, field_id, found, if_neg other]
  · conv_rhs => rw [← Book.find_id found]
    refine request_answered serves (t := s.removeCommitment c) ?_ ?_
    · rw [State.removeCommitment_port_service, serves.idle]
    · simp only [answerRemoval, State.heard_enter_book, field_id, found, if_pos same,
        State.removeCommitment_heard_enter]

end Sys2Proof.Machine

/-! PROOFS. The admission of an award record: its snapshot (R7), the checks of R9, its id and place (R5, R6). -/

namespace Sys2Proof.Machine

/-! ### The snapshot (R7, Tables 10-4 and 11-2) -/

theorem Product.ofCode_eq_some_iff (n : Nat) (q : Product) : Product.ofCode n = some q ↔ n = q.code := by
  unfold Product.ofCode
  split
  case h_4 => cases q <;> simp_all [Product.code]
  all_goals cases q <;> simp [Product.code]

/-- The value of a parameter: as carried where its presence bit is set, otherwise the profile's. -/
def AwardRecord.value (r : AwardRecord) (p : Profile) (bit at_ n : Nat) (i : ParamId) : Nat :=
  if r.presence.getLsbD bit then field r.params at_ n else p.nat i

/-- A parameter, where it is carried, lies in a range. -/
def AwardRecord.fits (r : AwardRecord) (bit at_ n lo hi : Nat) : Prop :=
  r.presence.getLsbD bit = true → lo ≤ field r.params at_ n ∧ field r.params at_ n ≤ hi

/-- A numeric parameter is taken where it fits its range (R9 check 4, Table 11-2). -/
theorem awardParam_eq_some_iff {p : Profile} {r : AwardRecord} {bit at_ n lo hi v : Nat} {i : ParamId}
    (range : i.range = .numeric lo hi) :
    awardParam p r bit at_ n i = some v ↔ r.fits bit at_ n lo hi ∧ v = r.value p bit at_ n i := by
  unfold awardParam AwardRecord.fits AwardRecord.value
  by_cases carried : r.presence.getLsbD bit = true
  · have admits : i.admits (field r.params at_ n) = true ↔
        lo ≤ field r.params at_ n ∧ field r.params at_ n ≤ hi := by simp [ParamId.admits, range]
    by_cases inRange : i.admits (field r.params at_ n) = true
    · simp [carried, inRange, admits.mp inRange, eq_comm]
    · simp [carried, inRange, mt admits.mpr inRange]
  · simp [carried, eq_comm]

section Snapshot

variable {p : Profile} {r : AwardRecord} {snapshot : Snapshot}

/-- The snapshot of a PROP award: its four parameters fit, and its full deviation exceeds its deadband. -/
theorem awardSnapshot_of_prop (product : Product.ofCode r.product = some .prop) :
    awardSnapshot p r = some snapshot ↔
      r.fits 0 0 2 0 200 ∧ r.fits 1 2 2 50 1000 ∧ r.fits 2 4 1 15 120 ∧ r.fits 3 5 1 15 120 ∧
        r.value p 0 0 2 .deadband < r.value p 1 2 2 .fullDeviation ∧
        snapshot = .prop (r.value p 0 0 2 .deadband) (r.value p 1 2 2 .fullDeviation)
          (r.value p 2 4 1 .enduranceUp) (r.value p 3 5 1 .enduranceDown) := by
  have chain : awardSnapshot p r =
      (awardParam p r 0 0 2 .deadband).bind fun db =>
      (awardParam p r 1 2 2 .fullDeviation).bind fun full =>
      (awardParam p r 2 4 1 .enduranceUp).bind fun up =>
      (awardParam p r 3 5 1 .enduranceDown).bind fun down =>
      if db < full then some (.prop db full up down) else none := by
    simp only [awardSnapshot, product]
    rcases awardParam p r 0 0 2 .deadband with _ | db
    · rfl
    rcases awardParam p r 1 2 2 .fullDeviation with _ | full
    · rfl
    rcases awardParam p r 2 4 1 .enduranceUp with _ | up
    · rfl
    cases awardParam p r 3 5 1 .enduranceDown <;> rfl
  simp only [chain, Option.bind_eq_some_iff, Option.ite_none_right_eq_some, Option.some.injEq,
    awardParam_eq_some_iff (i := .deadband) (lo := 0) (hi := 200) rfl,
    awardParam_eq_some_iff (i := .fullDeviation) (lo := 50) (hi := 1000) rfl,
    awardParam_eq_some_iff (i := .enduranceUp) (lo := 15) (hi := 120) rfl,
    awardParam_eq_some_iff (i := .enduranceDown) (lo := 15) (hi := 120) rfl,
    and_assoc, exists_and_left, exists_eq_left, @eq_comm _ snapshot]

/-- The snapshot of a TRIG award: its four parameters fit. -/
theorem awardSnapshot_of_trig (product : Product.ofCode r.product = some .trig) :
    awardSnapshot p r = some snapshot ↔
      r.fits 0 0 2 100 1000 ∧ r.fits 1 2 1 2 60 ∧ r.fits 2 3 1 0 30 ∧ r.fits 3 4 2 0 900 ∧
        snapshot = .trig (r.value p 0 0 2 .trigDeviation) (r.value p 1 2 1 .trigSupport)
          (r.value p 2 3 1 .trigRamp) (r.value p 3 4 2 .trigLockout) := by
  have chain : awardSnapshot p r =
      (awardParam p r 0 0 2 .trigDeviation).bind fun deviation =>
      (awardParam p r 1 2 1 .trigSupport).bind fun support =>
      (awardParam p r 2 3 1 .trigRamp).bind fun ramp =>
      (awardParam p r 3 4 2 .trigLockout).bind fun lockout =>
      some (.trig deviation support ramp lockout) := by
    simp only [awardSnapshot, product]
    rcases awardParam p r 0 0 2 .trigDeviation with _ | deviation
    · rfl
    rcases awardParam p r 1 2 1 .trigSupport with _ | support
    · rfl
    rcases awardParam p r 2 3 1 .trigRamp with _ | ramp
    · rfl
    cases awardParam p r 3 4 2 .trigLockout <;> rfl
  simp only [chain, Option.bind_eq_some_iff, Option.some.injEq,
    awardParam_eq_some_iff (i := .trigDeviation) (lo := 100) (hi := 1000) rfl,
    awardParam_eq_some_iff (i := .trigSupport) (lo := 2) (hi := 60) rfl,
    awardParam_eq_some_iff (i := .trigRamp) (lo := 0) (hi := 30) rfl,
    awardParam_eq_some_iff (i := .trigLockout) (lo := 0) (hi := 900) rfl,
    and_assoc, exists_and_left, exists_eq_left, @eq_comm _ snapshot]

/-- The snapshot of a SETP award: its two parameters fit. -/
theorem awardSnapshot_of_setp (product : Product.ofCode r.product = some .setp) :
    awardSnapshot p r = some snapshot ↔
      r.fits 0 0 1 15 240 ∧ r.fits 1 1 2 1 300 ∧
        snapshot = .setp (r.value p 0 0 1 .setpEndurance) (r.value p 1 1 2 .setpRamp) := by
  have chain : awardSnapshot p r =
      (awardParam p r 0 0 1 .setpEndurance).bind fun endurance =>
      (awardParam p r 1 1 2 .setpRamp).bind fun ramp => some (.setp endurance ramp) := by
    simp only [awardSnapshot, product]
    rcases awardParam p r 0 0 1 .setpEndurance with _ | endurance
    · rfl
    cases awardParam p r 1 1 2 .setpRamp <;> rfl
  simp only [chain, Option.bind_eq_some_iff, Option.some.injEq,
    awardParam_eq_some_iff (i := .setpEndurance) (lo := 15) (hi := 240) rfl,
    awardParam_eq_some_iff (i := .setpRamp) (lo := 1) (hi := 300) rfl,
    and_assoc, exists_and_left, exists_eq_left, @eq_comm _ snapshot]

/-- The snapshot of an award record of any product (R7, R9 check 4, Tables 10-4 and 11-2). -/
theorem awardSnapshot_eq_some_iff :
    awardSnapshot p r = some snapshot ↔
      (r.product = 1 ∧ r.fits 0 0 2 0 200 ∧ r.fits 1 2 2 50 1000 ∧ r.fits 2 4 1 15 120 ∧
        r.fits 3 5 1 15 120 ∧ r.value p 0 0 2 .deadband < r.value p 1 2 2 .fullDeviation ∧
        snapshot = .prop (r.value p 0 0 2 .deadband) (r.value p 1 2 2 .fullDeviation)
          (r.value p 2 4 1 .enduranceUp) (r.value p 3 5 1 .enduranceDown)) ∨
      (r.product = 2 ∧ r.fits 0 0 2 100 1000 ∧ r.fits 1 2 1 2 60 ∧ r.fits 2 3 1 0 30 ∧
        r.fits 3 4 2 0 900 ∧
        snapshot = .trig (r.value p 0 0 2 .trigDeviation) (r.value p 1 2 1 .trigSupport)
          (r.value p 2 3 1 .trigRamp) (r.value p 3 4 2 .trigLockout)) ∨
      (r.product = 3 ∧ r.fits 0 0 1 15 240 ∧ r.fits 1 1 2 1 300 ∧
        snapshot = .setp (r.value p 0 0 1 .setpEndurance) (r.value p 1 1 2 .setpRamp)) := by
  rcases product : Product.ofCode r.product with _ | _ | _ | _
  · have unlisted (q : Product) : r.product ≠ q.code := by
      simp [← Product.ofCode_eq_some_iff, product]
    simp [awardSnapshot, product, show r.product ≠ 1 from unlisted .prop,
      show r.product ≠ 2 from unlisted .trig, show r.product ≠ 3 from unlisted .setp]
  · have code : r.product = 1 := (Product.ofCode_eq_some_iff ..).mp product
    simp [awardSnapshot_of_prop product, code]
  · have code : r.product = 2 := (Product.ofCode_eq_some_iff ..).mp product
    simp [awardSnapshot_of_trig product, code]
  · have code : r.product = 3 := (Product.ofCode_eq_some_iff ..).mp product
    simp [awardSnapshot_of_setp product, code]

/-- A snapshot is of the product its award record names. -/
theorem awardSnapshot_product (taken : awardSnapshot p r = some snapshot) :
    Product.ofCode r.product = some snapshot.product := by
  rw [Product.ofCode_eq_some_iff]
  rcases awardSnapshot_eq_some_iff.mp taken with prop | trig | setp
  · obtain ⟨code, _, _, _, _, _, rfl⟩ := prop
    exact code
  · obtain ⟨code, _, _, _, _, rfl⟩ := trig
    exact code
  · obtain ⟨code, _, _, rfl⟩ := setp
    exact code

end Snapshot

/-! ### The energy requirement (R44) -/

theorem energyRequirement_cases (capacity : Sides) (db full eu ed d support ramp lockout : Nat) :
    energyRequirement capacity (.prop db full eu ed) =
      ⟨(capacity.up * eu + 59) / 60, (capacity.down * ed + 59) / 60⟩ ∧
    energyRequirement capacity (.trig d support ramp lockout) =
      ⟨(capacity.up * support + 3599) / 3600, 0⟩ ∧
    energyRequirement capacity (.setp eu ramp) =
      ⟨(capacity.up * eu + 59) / 60, (capacity.down * eu + 59) / 60⟩ :=
  ⟨rfl, rfl, rfl⟩

/-! ### The checks of R9 -/

theorem floor10_pos_iff (n : Nat) : 0 < floor10 n ↔ 10 ≤ n := by
  unfold floor10; omega

theorem Sides.get_map (f : Nat → Nat) (x : Sides) (side : Side) : (x.map f).get side = f (x.get side) := by
  cases side <;> rfl

/-- The part of check 4 of R9 that does not concern the parameters, as raw capacities. -/
theorem awardShape_iff (r : AwardRecord) :
    awardShape r = true ↔ r.start ≤ r.stop ∧ r.capacity.up ≤ 5000000 ∧ r.capacity.down ≤ 5000000 ∧
      (10 ≤ r.capacity.up ∨ 10 ≤ r.capacity.down) ∧
      (Product.ofCode r.product = some .trig → r.capacity.down < 10) := by
  have zero (n : Nat) : floor10 n = 0 ↔ n < 10 := by unfold floor10; omega
  simp [awardShape, Sides.map, zero, and_assoc, imp_iff_not_or, -not_and]

/-- A row passes where every side with a capacity fits (R51). -/
theorem PlanRow.failingSide_eq_none {m : Nat} {row : PlanRow} {capacity requirement : Sides}
    (fit : ∀ side, 0 < capacity.get side → row.fits m capacity requirement side = true) :
    row.failingSide m capacity requirement = none := by
  have up : ¬(0 < capacity.up ∧ !row.fits m capacity requirement .up) := fun ⟨sold, unfit⟩ => by
    simp [fit .up sold] at unfit
  have down : ¬(0 < capacity.down ∧ !row.fits m capacity requirement .down) := fun ⟨sold, unfit⟩ => by
    simp [fit .down sold] at unfit
  rw [PlanRow.failingSide, if_neg up, if_neg down]

/-- The admission test passes where every row of a covered slot fits on every side with a capacity (R51). -/
theorem admissionTest_eq_none {plan : Plan} {m start stop : Nat} {capacity requirement : Sides}
    (fit : ∀ row ∈ plan.all, ∀ slot ∈ row.slot, start ≤ slot → slot ≤ stop →
      ∀ side, 0 < capacity.get side → row.fits m capacity requirement side = true) :
    admissionTest plan m start stop capacity requirement = none := by
  rw [admissionTest, List.findSome?_eq_none_iff]
  intro slot covered
  rw [List.mem_range'_1] at covered
  cases found : plan.rowFor slot with
  | none => rfl
  | some row =>
    have stands : row.slot = some slot := by simpa using List.find?_some found
    have passes : row.failingSide m capacity requirement = none :=
      PlanRow.failingSide_eq_none
        (fit row (List.mem_of_find?_eq_some found) slot stands (by omega) (by omega))
    simp [passes]

/-- An award record that meets the six checks of R9 passes them, with its sequence and snapshot. -/
theorem awardChecks_eq_ok {s : State} {r : AwardRecord} {snapshot : Snapshot} {seq : Nat}
    (set : s.clock.set = true) (early : s.clock.slot < r.start) (near : r.stop ≤ s.clock.slot + 192)
    (shape : awardShape r = true) (taken : awardSnapshot s.profile r = some snapshot)
    (room : s.book.records.length < 64) (next : s.book.nextSeq = some seq)
    (headroom : admissionTest s.plan (s.profile.nat .margin) r.start r.stop (r.capacity.map floor10)
      (energyRequirement (r.capacity.map floor10) snapshot) = none) :
    awardChecks s r = .ok (seq, snapshot) := by
  simp [awardChecks, set, not_le.mpr early, not_lt.mpr near, shape, taken, next, not_le.mpr room,
    headroom]

/-! ### The id and the place of a new record (R5, R6) -/

/-- The `j`-th id tried after the last one assigned, 65535 being followed by 1 (R6). -/
def candidateId (last j : Nat) : Nat := (last + j) % 65535 + 1

theorem nextId_eq_candidateId {last : Nat} (h : last ≤ 65535) : nextId last = candidateId last 0 := by
  unfold nextId candidateId; split <;> omega

theorem candidateId_candidateId (last i j : Nat) :
    candidateId (candidateId last i) j = candidateId last (i + j + 1) := by
  unfold candidateId; omega

theorem candidateId_le (last j : Nat) : candidateId last j ≤ 65535 := by
  unfold candidateId; omega

/-- The tries end at the first candidate that is free, or find none free. -/
theorem freeId_eq_first_free (used : List Nat) (tries : Nat) {last : Nat} (h : last ≤ 65535) :
    (∃ k, freeId used tries last = candidateId last k ∧ candidateId last k ∉ used ∧
      ∀ j < k, candidateId last j ∈ used) ∨
    ∀ j < tries, candidateId last j ∈ used := by
  induction tries generalizing last with
  | zero => exact .inr fun j hj => absurd hj (Nat.not_lt_zero j)
  | succ tries ih =>
    have shift (j : Nat) : candidateId (candidateId last 0) j = candidateId last (j + 1) := by
      rw [candidateId_candidateId, Nat.zero_add]
    by_cases taken : candidateId last 0 ∈ used
    · have first_taken {n : Nat} (later : ∀ j < n, candidateId last (j + 1) ∈ used) :
          ∀ j < n + 1, candidateId last j ∈ used
        | 0, _ => taken
        | j + 1, hj => later j (Nat.lt_of_succ_lt_succ hj)
      have step : freeId used (tries + 1) last = freeId used tries (candidateId last 0) := by
        simp [freeId, nextId_eq_candidateId h, taken]
      simp only [step]
      rcases ih (candidateId_le last 0) with ⟨k, found, free, before⟩ | all
      · simp only [shift] at found free before
        exact .inl ⟨k + 1, found, free, first_taken before⟩
      · simp only [shift] at all
        exact .inr (first_taken all)
    · refine .inl ⟨0, ?_, taken, fun j hj => absurd hj (Nat.not_lt_zero j)⟩
      simp [freeId, nextId_eq_candidateId h, taken]

/-- Fewer than 65 used ids leave one of 65 candidates free. -/
theorem exists_candidateId_free {used : List Nat} (few : used.length < 65) (last : Nat) :
    ∃ j < 65, candidateId last j ∉ used := by
  by_contra! all
  have distinct : ((List.range 65).map (candidateId last)).Nodup := by
    refine List.nodup_range.map_on fun i hi j hj same => ?_
    rw [List.mem_range] at hi hj
    unfold candidateId at same
    omega
  have within : (List.range 65).map (candidateId last) ⊆ used := by
    intro id mem
    obtain ⟨j, hj, rfl⟩ := List.mem_map.mp mem
    exact all j (List.mem_range.mp hj)
  have count := (distinct.subperm within).length_le
  simp only [List.length_map, List.length_range] at count
  omega

/-- A book with room assigns the first free candidate (R6). -/
theorem freeId_free {used : List Nat} {last : Nat} (few : used.length < 65) (h : last ≤ 65535) :
    ∃ k, freeId used 65 last = candidateId last k ∧ candidateId last k ∉ used ∧
      ∀ j < k, candidateId last j ∈ used := by
  refine (freeId_eq_first_free used 65 h).resolve_right fun all => ?_
  obtain ⟨j, hj, free⟩ := exists_candidateId_free few last
  exact free (all j hj)

/-- The last sequence is followed by none (R6). -/
theorem nextSequence_eq {seq : Nat} (h : seq ≤ maxWord) :
    nextSequence seq = if seq = 4294967295 then none else some (seq + 1) := by
  have last : maxWord ≤ seq ↔ seq = 4294967295 := by unfold maxWord at *; omega
  simp only [nextSequence, last]

/-- The latest-accepted record stands between the records of lower and of higher key (R5). -/
theorem insertByKey_latest {c : Commitment} {l : List Commitment}
    (sorted : l.Pairwise fun a b => keyLess a.key b.key = true) (latest : ∀ d ∈ l, d.seq < c.seq) :
    ∃ before after, l = before ++ after ∧ insertByKey c l = before ++ c :: after ∧
      (∀ d ∈ before, d.start < c.start ∨ (d.start = c.start ∧ d.seq < c.seq)) ∧
      ∀ d ∈ after, c.start < d.start ∨ (c.start = d.start ∧ c.seq < d.seq) := by
  obtain ⟨before, after, rfl, inserted, low, high⟩ := insertByKey_splits c l sorted
  refine ⟨before, after, rfl, inserted, fun d mem => ?_, fun d mem => (keyLess_iff _ _).mp (high d mem)⟩
  have older := latest d (List.mem_append_left after mem)
  have notAbove : ¬(c.start < d.start ∨ (c.start = d.start ∧ c.seq < d.seq)) := fun above =>
    Bool.false_ne_true ((low d mem).symm.trans ((keyLess_iff c.key d.key).mpr above))
  omega

/-! ### An AWARD request of one record (R8, R10) -/

/-- The admission of a commitment takes no notice of the request in service. -/
theorem State.enterBook_heard_enter (s : State) (port : Port) (kind : RequestKind) (tag : Byte)
    (c : Commitment) :
    ((s.heard port).enter port kind tag).enterBook c
      = ((s.enterBook c).heard port).enter port kind tag := by
  rw [State.enterBook, State.enterBook, ← State.post_heard_enter]
  cases port <;> rfl

theorem State.enterBook_port_service (s : State) (c : Commitment) (port : Port) :
    ((s.enterBook c).port port).service = (s.port port).service := by
  rw [State.enterBook, State.post_port_service]
  cases port <;> rfl

theorem awardChecks_heard_enter (s : State) (port : Port) (kind : RequestKind) (tag : Byte)
    (r : AwardRecord) : awardChecks ((s.heard port).enter port kind tag) r = awardChecks s r := by
  simp [awardChecks, State.heard_enter_eq]

/-- The taking of an award record takes no notice of the request in service. -/
theorem State.takeAward_heard_enter (s : State) (port : Port) (kind : RequestKind) (tag : Byte)
    (r : AwardRecord) :
    ((s.heard port).enter port kind tag).takeAward r
      = (((s.takeAward r).1.heard port).enter port kind tag, (s.takeAward r).2) := by
  rw [State.takeAward, State.takeAward, awardChecks_heard_enter]
  rcases awardChecks s r with refusal | ⟨seq, snapshot⟩
  · rfl
  · simp only [State.heard_enter_book, State.enterBook_heard_enter]

theorem State.takeAward_port_service (s : State) (r : AwardRecord) (port : Port) :
    (((s.takeAward r).1).port port).service = (s.port port).service := by
  rw [State.takeAward]
  rcases awardChecks s r with refusal | ⟨seq, snapshot⟩
  · rfl
  · exact s.enterBook_port_service _ port

/-- A batch of one record answers that record's entry (R8). -/
theorem exec_award_single {s : State} {tag : Byte} {body : List Byte} {r : AwardRecord}
    (serves : Serves s .award .market body) (one : field body 0 1 = 1) (record : awardRecords body = [r]) :
    exec (.award .market tag body) s = .next ((s.takeAward r).1.doneWith .award .market tag
      (1#8 :: (s.takeAward r).2.bytes)) := by
  refine request_answered serves (by rw [State.takeAward_port_service, serves.idle]) ?_
  simp only [answerAward, one, record, State.takeAwards, State.takeAward_heard_enter]
  simp [be]

/-- An award record that passes the checks enters the book under the first free id. -/
theorem State.takeAward_eq_admitted {s : State} {r : AwardRecord} {snapshot : Snapshot} {seq id : Nat}
    (ok : awardChecks s r = .ok (seq, snapshot))
    (free : freeId (s.book.records.map Commitment.id) 65 s.book.lastId = id) :
    s.takeAward r = (s.enterBook (r.commitment id seq snapshot), .admitted id) := by
  subst free
  simp only [State.takeAward, ok]

/-- Settles O21: the hypotheses pass the checks, and the first free id and the latest sequence fix the record
and its place. -/
theorem awardAdmitsWhatPasses : Obligations.AwardAdmitsWhatPasses := by
  refine ⟨fun p r snapshot => ⟨r.value p, r.fits, fun _ _ _ _ => rfl, fun _ _ _ _ _ => Iff.rfl,
    awardSnapshot_eq_some_iff⟩, energyRequirement_cases, ?_⟩
  intro s tag body r snapshot seq serves one record sound set early near rises upMax downMax some_capacity
    oneSided taken room next headroom
  obtain ⟨-, -, -, sorted, -, -, lastId, nextSeq, -⟩ := sound
  obtain ⟨-, seqMax, latest⟩ := nextSeq seq next
  have shape : awardShape r = true := by
    refine (awardShape_iff r).mpr ⟨rises, upMax, downMax, some_capacity, fun trig => oneSided ?_⟩
    exact Option.some.inj ((awardSnapshot_product taken).symm.trans trig)
  have passes : admissionTest s.plan (s.profile.nat .margin) r.start r.stop (r.capacity.map floor10)
      (energyRequirement (r.capacity.map floor10) snapshot) = none := by
    refine admissionTest_eq_none fun row mem slot stands low high side sold => ?_
    rw [Sides.get_map, floor10_pos_iff] at sold
    rw [PlanRow.fits, decide_eq_true_iff, Sides.get_map]
    exact headroom row mem slot stands low high side sold
  have few : (s.book.records.map Commitment.id).length < 65 := by rw [List.length_map]; omega
  obtain ⟨k, first, free, earlier_taken⟩ := freeId_free few lastId
  obtain ⟨before, after, parts, inserted, low, high⟩ :=
    insertByKey_latest (c := r.commitment (candidateId s.book.lastId k) seq snapshot) sorted latest
  have taking := State.takeAward_eq_admitted
    (awardChecks_eq_ok set early near shape taken room next passes) first
  refine ⟨candidateId s.book.lastId k, k, r.commitment (candidateId s.book.lastId k) seq snapshot,
    before, after, parts, low, high, by simp [candidateId], candidateId_le _ _, ?_, rfl, ?_, rfl, ?_⟩
  · intro d mem same
    exact free (same ▸ List.mem_map_of_mem mem)
  · intro j hj
    exact List.mem_map.mp (earlier_taken j hj)
  · rw [exec_award_single serves one record, taking, State.enterBook, inserted,
      ← nextSequence_eq seqMax]
    rfl

end Sys2Proof.Machine

/-! PROOFS. The requests of the Fleet Table (R23, R24, R25, R34) and the end of a unit test (R36). -/

namespace Sys2Proof.Machine

/-! ### The table around a request in service -/

section InService

variable (s : State) (port : Port) (kind : RequestKind) (tag : Byte)

@[simp] theorem State.heard_enter_fleet : ((s.heard port).enter port kind tag).fleet = s.fleet := by
  rw [State.heard_enter_eq, State.setPort_fleet]

@[simp] theorem State.heard_enter_time : ((s.heard port).enter port kind tag).time = s.time := by
  rw [State.heard_enter_eq, State.setPort_time]

@[simp] theorem State.heard_enter_profile : ((s.heard port).enter port kind tag).profile = s.profile := by
  rw [State.heard_enter_eq, State.setPort_profile]

@[simp] theorem State.heard_enter_delivery : ((s.heard port).enter port kind tag).delivery = s.delivery := by
  rw [State.heard_enter_eq, State.setPort_delivery]

@[simp] theorem State.setUnit_port (a : Nat) (u : UnitRecord) : (s.setUnit a u).port port = s.port port := by
  cases port <;> rfl

/-- The writing of a record takes no notice of the request in service. -/
theorem State.setUnit_heard_enter (a : Nat) (u : UnitRecord) :
    ((s.heard port).enter port kind tag).setUnit a u
      = ((s.setUnit a u).heard port).enter port kind tag := by
  cases port <;> rfl

end InService

/-! ### The fields ENROL and UNIT-MODE share (R21, R23, R25) -/

section Fields

variable {body : List Byte} {code : Nat} {carried : Bool} {d : Sides}

theorem addressOf_eq_none_iff : addressOf body = none ↔ field body 0 1 < 1 ∨ 240 < field body 0 1 := by
  simp only [addressOf, ite_eq_right_iff, reduceCtorEq, imp_false]
  omega

theorem addressOf_eq_some (low : 1 ≤ field body 0 1) (high : field body 0 1 ≤ 240) :
    addressOf body = some (field body 0 1) := if_pos ⟨low, high⟩

theorem addressOf_single_eq_none {a : Byte} (outside : a.toNat < 1 ∨ 240 < a.toNat) :
    addressOf [a] = none := by
  rwa [addressOf_eq_none_iff, field_single]

theorem addressOf_single {a : Byte} (low : 1 ≤ a.toNat) (high : a.toNat ≤ 240) :
    addressOf [a] = some a.toNat := by
  rw [← field_single a] at low high ⊢
  exact addressOf_eq_some low high

/-- The mode a code of 0 to 2 names, its declared headroom floored to multiples of 10. -/
def codedMode (code : Nat) (d : Sides) : EnrolMode :=
  if code = 0 then .off else if code = 1 then .auto else .manual ⟨d.up / 10 * 10, d.down / 10 * 10⟩

theorem codedMode_eq_off_iff : codedMode code d = .off ↔ code = 0 := by
  unfold codedMode
  split_ifs with zero <;> simp [zero]

theorem enrolMode_eq_none (bad : 2 < code ∨ (code = 2 ∧ carried = false) ∨
    (carried = true ∧ (655350 < d.up ∨ 655350 < d.down))) : enrolMode code carried d = none := by
  unfold enrolMode declaredLimit
  obtain unlisted | ⟨rfl, rfl⟩ | ⟨rfl, above⟩ := bad
  · obtain ⟨n, rfl⟩ := Nat.exists_eq_add_of_le' unlisted
    exact ite_self none
  · rfl
  · simp [above]

theorem enrolMode_eq_codedMode (listed : code ≤ 2) (declares : code = 2 → carried = true)
    (within : carried = true → d.up ≤ 655350 ∧ d.down ≤ 655350) :
    enrolMode code carried d = some (codedMode code d) := by
  have inRange : ¬(carried && (decide (declaredLimit < d.up) || decide (declaredLimit < d.down))) = true := by
    simp only [Bool.and_eq_true, Bool.or_eq_true, decide_eq_true_eq]
    rintro ⟨given, above⟩
    have := within given
    unfold declaredLimit at above
    omega
  unfold enrolMode
  rw [if_neg inRange]
  obtain rfl | rfl | rfl : code = 0 ∨ code = 1 ∨ code = 2 := by omega
  · rfl
  · rfl
  · exact if_pos (declares rfl)

end Fields

/-! ### ENROL (R23) -/

section Enrol

variable {s : State} {body : List Byte} {a g : Nat} {mode : EnrolMode}

theorem answerEnrol_badField
    (gain : g = if (field body 2 1).testBit 1 then field body 11 2 else 4096)
    (bad : addressOf body = none ∨
      enrolMode (field body 1 1) ((field body 2 1).testBit 0) (declaredFields body) = none ∨ 4096 < g) :
    answerEnrol body s = (s, .refused .badField) := by
  subst gain
  simp only [answerEnrol]
  split
  next address modeField =>
    simp only [address, modeField, reduceCtorEq, false_or] at bad
    exact if_pos bad
  next => rfl

theorem answerEnrol_checked
    (gain : g = if (field body 2 1).testBit 1 then field body 11 2 else 4096)
    (address : addressOf body = some a)
    (modeField : enrolMode (field body 1 1) ((field body 2 1).testBit 0) (declaredFields body) = some mode)
    (inRange : g ≤ 4096) :
    answerEnrol body s =
      if (Fleet.get s.fleet a).isSome then (s, .refused .inUse)
      else ((s.setUnit a (.enrolled mode g)).post .unit,
        .done ((UnitRecord.enrolled mode g).bytes s.time a)) := by
  subst gain
  simp only [answerEnrol, address, modeField, if_neg (Nat.not_lt.mpr inRange)]

end Enrol

/-- Settles O27: the fields are in range or refused, and a record in range enters a VACANT entry alone. -/
theorem enrolCreatesTheRecord : Obligations.EnrolCreatesTheRecord := by
  intro s tag body serves
  refine ⟨_, _, _, _, _, _, rfl, rfl, rfl, rfl, rfl, rfl, fun bad => ?_,
    fun low high listed declares within inRange => ⟨fun used => ?_, fun vacant => ⟨_, rfl, ?_⟩⟩⟩
  · apply request_refused serves serves.idle
    refine answerEnrol_badField rfl ?_
    rw [addressOf_eq_none_iff]
    have mode := @enrolMode_eq_none (field body 1 1) ((field body 2 1).testBit 0) (declaredFields body)
    tauto
  · apply request_refused serves serves.idle
    rw [answerEnrol_checked rfl (addressOf_eq_some low high)
      (enrolMode_eq_codedMode listed declares within) inRange, State.heard_enter_fleet, if_pos used]
  · have free : ¬(Fleet.get s.fleet (field body 0 1)).isSome = true := by simp [vacant]
    refine request_answered serves (t := (s.setUnit _ _).post .unit) ?_ ?_
    · rw [State.post_port_service, State.setUnit_port, serves.idle]
    · rw [answerEnrol_checked rfl (addressOf_eq_some low high)
        (enrolMode_eq_codedMode listed declares within) inRange, State.heard_enter_fleet, if_neg free,
        State.setUnit_heard_enter, State.post_heard_enter, State.heard_enter_time]
      rfl

/-! ### RETIRE (R24, R134) -/

/-- The mark of R134 falls on the visit in SENDING or AWAITING whose address leaves, and on nothing else. -/
theorem Link.markRemoved_eq (l : Link) (leaves : Nat → Bool) :
    l.markRemoved leaves = { l with visit := l.visit.map fun v =>
      { v with removed := v.removed || (leaves v.address && l.phase.visiting) } } := by
  unfold Link.markRemoved
  cases l.phase.visiting
  · simp
  · simp

theorem LinkPhase.visiting_eq (phase : LinkPhase) :
    phase.visiting = (phase == .sending || match phase with
      | .awaiting _ => true
      | _ => false) := by
  cases phase <;> rfl

/-- The table and the link once the entry at an address is VACANT, TEST and UNIT posted. -/
def State.retired (s : State) (a : Nat) (u : UnitRecord) : State :=
  ({ s with fleet := Fleet.erase s.fleet a, link := s.link.markRemoved fun b => b == a }.postIf
    u.inTest .test).post .unit

/-- A retirement takes no notice of the request in service. -/
theorem State.retired_heard_enter (s : State) (port : Port) (kind : RequestKind) (tag : Byte) (a : Nat)
    (u : UnitRecord) :
    ((s.heard port).enter port kind tag).retired a u
      = ((s.retired a u).heard port).enter port kind tag := by
  rw [State.retired, State.retired, ← State.post_heard_enter, ← State.postIf_heard_enter]
  cases port <;> rfl

theorem State.retired_port_service (s : State) (a : Nat) (u : UnitRecord) (port : Port) :
    ((s.retired a u).port port).service = (s.port port).service := by
  rw [State.retired, State.post_port_service, State.postIf_port_service]
  cases port <;> rfl

theorem answerRetire_found {s : State} {body : List Byte} {a : Nat} {u : UnitRecord}
    (address : addressOf body = some a) (found : Fleet.get s.fleet a = some u) :
    answerRetire body s = (s.retired a u, .done []) := by
  simp only [answerRetire, address, found]
  rfl

/-- Settles O28: a record found leaves the table, and the link keeps all but the mark of its visit. -/
theorem retireVacatesTheEntry : Obligations.RetireVacatesTheEntry := by
  intro s tag a serves
  refine ⟨fun bad => ?_, fun low high vacant => ?_, fun u low high found =>
    ⟨s.link.markRemoved fun b => b == a.toNat, ?_, fun v visit => ?_, fun idle => ?_, ?_⟩⟩
  · apply request_refused serves serves.idle
    simp only [answerRetire, addressOf_single_eq_none bad]
  · apply request_refused serves serves.idle
    simp only [answerRetire, addressOf_single low high, State.heard_enter_fleet, vacant]
  · rw [Link.markRemoved_eq]
  · rw [Link.markRemoved_eq, Option.mem_def.mp visit, LinkPhase.visiting_eq]
    rfl
  · rw [Link.markRemoved_eq, idle]
    rfl
  · refine request_answered serves (t := s.retired a.toNat u) ?_ ?_
    · rw [State.retired_port_service, serves.idle]
    · rw [answerRetire_found (u := u) (addressOf_single low high), State.retired_heard_enter]
      rwa [State.heard_enter_fleet]

/-! ### UNIT-MODE (R25) -/

/-- A set of bar reasons changes with its LOW_RESPONSE. -/
theorem BarReasons.withLow_bne (b : BarReasons) (low : Bool) :
    ({ b with lowResponse := low } != b) = (low != b.lowResponse) := by
  obtain ⟨fault, optOut, old⟩ := b
  simp [bne, BEq.beq]

theorem UnitRecord.withMode_eq (u : UnitRecord) (m : EnrolMode) (clear : Bool) :
    u.withMode m clear = { u with
      mode := .plain m
      bars := { u.bars with lowResponse := u.bars.lowResponse && !clear }
      setpoint := if m = .off then 0 else u.setpoint
      participation := if m = .off then 0 else u.participation
      restoration := if m = .off then 0 else u.restoration } := by
  by_cases off : m = .off
  · cases clear <;> simp [UnitRecord.withMode, UnitRecord.zeroed, off]
  · cases clear <;> simp [UnitRecord.withMode, off]

/-- The reply to a UNIT-MODE carries the mode as coded, and a declared headroom in MANUAL alone. -/
theorem UnitRecord.modeBytes_withMode (u : UnitRecord) {code : Nat} (d : Sides) (clear : Bool)
    (listed : code ≤ 2) :
    (u.withMode (codedMode code d) clear).modeBytes
      = [BitVec.ofNat 8 code, if code = 2 then 1#8 else 0#8]
        ++ be 4 (if code = 2 then d.up / 10 * 10 else 0)
        ++ be 4 (if code = 2 then d.down / 10 * 10 else 0)
        ++ be 1 (u.withMode (codedMode code d) clear).bars.code := by
  have mode : (u.withMode (codedMode code d) clear).mode = .plain (codedMode code d) := by
    rw [UnitRecord.withMode_eq]
  rw [UnitRecord.modeBytes, UnitRecord.declared, mode]
  obtain rfl | rfl | rfl : code = 0 ∨ code = 1 ∨ code = 2 := by omega
  all_goals simp [codedMode, Mode.enrolled, Mode.code, EnrolMode.code, Sides.zero, be]

section UnitMode

variable {s : State} {body : List Byte} {a : Nat} {mode : EnrolMode}

theorem answerUnitMode_badField (bad : addressOf body = none ∨
    enrolMode (field body 1 1) ((field body 2 1).testBit 0) (declaredFields body) = none) :
    answerUnitMode body s = (s, .refused .badField) := by
  simp only [answerUnitMode]
  split
  next address modeField => simp only [address, modeField, reduceCtorEq, or_self] at bad
  next => rfl

theorem answerUnitMode_found {u : UnitRecord} (address : addressOf body = some a)
    (modeField : enrolMode (field body 1 1) ((field body 2 1).testBit 0) (declaredFields body) = some mode)
    (found : Fleet.get s.fleet a = some u) :
    answerUnitMode body s =
      if u.inTest then (s, .refused .wrongState)
      else
        ((s.setUnit a (u.withMode mode ((field body 2 1).testBit 1))).postIf
          (u.bars.lowResponse && (field body 2 1).testBit 1) .unit,
          .done (u.withMode mode ((field body 2 1).testBit 1)).modeBytes) := by
  have changed (clear : Bool) :
      ((u.withMode mode clear).bars != u.bars) = (u.bars.lowResponse && clear) := by
    rw [UnitRecord.withMode_eq, BarReasons.withLow_bne]
    cases u.bars.lowResponse <;> cases clear <;> rfl
  simp only [answerUnitMode, address, modeField, found, changed]

end UnitMode

/-- Settles O29: the fields are in range or refused, and the record found is under test or takes the mode. -/
theorem unitModeChangesTheMode : Obligations.UnitModeChangesTheMode := by
  intro s tag body serves
  refine ⟨_, _, _, _, _, _, rfl, rfl, rfl, rfl, rfl, rfl, fun bad => ?_,
    fun low high listed declares within => ⟨fun vacant => ?_, fun u t found test => ?_,
      fun u m found plain => ⟨_, rfl, ?_⟩⟩⟩
  · apply request_refused serves serves.idle
    refine answerUnitMode_badField ?_
    rw [addressOf_eq_none_iff]
    have mode := @enrolMode_eq_none (field body 1 1) ((field body 2 1).testBit 0) (declaredFields body)
    tauto
  · apply request_refused serves serves.idle
    simp only [answerUnitMode, addressOf_eq_some low high, enrolMode_eq_codedMode (d := declaredFields body)
      listed declares within, State.heard_enter_fleet, vacant]
  · apply request_refused serves serves.idle
    rw [answerUnitMode_found (u := u) (addressOf_eq_some low high)
      (enrolMode_eq_codedMode listed declares within), if_pos (by rw [UnitRecord.inTest, test])]
    rwa [State.heard_enter_fleet]
  · refine request_answered serves (t := (s.setUnit _ _).postIf _ .unit) ?_ ?_
    · rw [State.postIf_port_service, State.setUnit_port, serves.idle]
    · rw [answerUnitMode_found (u := u) (addressOf_eq_some low high)
        (enrolMode_eq_codedMode listed declares within), if_neg (by simp [UnitRecord.inTest, plain]),
        State.setUnit_heard_enter, State.postIf_heard_enter, UnitRecord.modeBytes_withMode u _ _ listed]
      · simp only [UnitRecord.withMode_eq, codedMode_eq_off_iff]
        rfl
      · rwa [State.heard_enter_fleet]

/-! ### UNIT-TEST (R34) -/

theorem Fleet.underTest_isSome_iff (f : Fleet) : f.underTest.isSome = true ↔ ∃ e ∈ f, e.2.inTest = true := by
  simp [Fleet.underTest]

theorem testPower_eq_zero_iff (p : Profile) (r : Report) :
    testPower p r = 0 ↔ r.maxDischarge * p.nat .testFraction / 100 < 10 := by
  unfold testPower floor10
  omega

theorem UnitRecord.eligible_of {u : UnitRecord} {m : EnrolMode} (live : u.link = .live)
    (unbarred : u.bars = ⟨false, false, false⟩) (plain : u.mode = .plain m) (on : m ≠ .off) :
    u.eligible = true := by
  simp [UnitRecord.eligible, BarReasons.empty, UnitRecord.inTest, UnitRecord.isOff, live, unbarred, plain, on]

/-- The record of a unit whose test starts now (R34). -/
def UnitRecord.startTest (u : UnitRecord) (now : Nat) (p : Profile) (r : Report) : UnitRecord :=
  { u with mode := .test ⟨now, u.mode.enrolled, r.power, testPower p r, p.nat .testDuration, 0, 0⟩ }

section UnitTest

variable {s : State} {body : List Byte} {a : Nat} {u : UnitRecord}

theorem answerUnitTest_testRunning (address : addressOf body = some a) (found : Fleet.get s.fleet a = some u)
    (running : ∃ e ∈ s.fleet, e.2.inTest = true) : answerUnitTest body s = (s, .refused .testRunning) := by
  simp only [answerUnitTest, address, found, if_pos ((Fleet.underTest_isSome_iff s.fleet).mpr running)]

/-- With no test running, a unit with a report is tested where no check of R34 fails. -/
theorem answerUnitTest_checked (address : addressOf body = some a) (found : Fleet.get s.fleet a = some u)
    (quiet : ∀ e ∈ s.fleet, e.2.inTest = false) :
    answerUnitTest body s = match u.report with
      | none => (s, .refused .wrongState)
      | some r =>
        if !u.eligible || s.episodeOpen || testPower s.profile r == 0 then (s, .refused .wrongState)
        else (s.setUnit a (u.startTest s.time s.profile r),
          .done (be 4 (testPower s.profile r) ++ be 1 (s.profile.nat .testDuration))) := by
  have noTest : ¬s.fleet.underTest.isSome = true := by
    rw [Fleet.underTest_isSome_iff]
    rintro ⟨e, mem, test⟩
    exact Bool.false_ne_true ((quiet e mem).symm.trans test)
  simp only [answerUnitTest, address, found, if_neg noTest]
  rfl

theorem answerUnitTest_wrongState (address : addressOf body = some a) (found : Fleet.get s.fleet a = some u)
    (quiet : ∀ e ∈ s.fleet, e.2.inTest = false)
    (fails : u.eligible = false ∨ s.delivery.episode.isSome = true ∨
      ∀ r, u.report = some r → r.maxDischarge * s.profile.nat .testFraction / 100 < 10) :
    answerUnitTest body s = (s, .refused .wrongState) := by
  rw [answerUnitTest_checked address found quiet]
  cases report : u.report with
  | none => rfl
  | some r =>
    refine if_pos ?_
    simpa [report, State.episodeOpen, testPower_eq_zero_iff, or_assoc] using fails

theorem answerUnitTest_starts {r : Report} (address : addressOf body = some a)
    (found : Fleet.get s.fleet a = some u) (quiet : ∀ e ∈ s.fleet, e.2.inTest = false)
    (eligible : u.eligible = true) (noEpisode : s.delivery.episode = none) (report : u.report = some r)
    (enough : 10 ≤ r.maxDischarge * s.profile.nat .testFraction / 100) :
    answerUnitTest body s = (s.setUnit a (u.startTest s.time s.profile r),
      .done (be 4 (testPower s.profile r) ++ be 1 (s.profile.nat .testDuration))) := by
  rw [answerUnitTest_checked address found quiet, report]
  refine if_neg ?_
  simpa [eligible, State.episodeOpen, noEpisode, testPower_eq_zero_iff] using enough

end UnitTest

/-! ### The end of a test (R36) -/

/-- The unit under test is the one found first, where at most one is under test. -/
theorem Fleet.underTest_eq_some {f : Fleet} {a : Nat} {u : UnitRecord}
    (one : (f.filter fun e => e.2.inTest).length ≤ 1) (found : Fleet.get f a = some u)
    (test : u.inTest = true) : f.underTest = some a := by
  have mem : (a, u) ∈ f.filter fun e => e.2.inTest := List.mem_filter.mpr ⟨Fleet.mem_of_get found, test⟩
  obtain ⟨e, only⟩ := List.length_eq_one_iff.mp (one.antisymm (List.length_pos_of_mem mem))
  rw [only, List.mem_singleton] at mem
  rw [Fleet.underTest, ← List.head?_filter, only, ← mem]
  rfl

theorem TestRecord.factor_le (t : TestRecord) : t.factor ≤ 4096 := by
  unfold TestRecord.factor clamp
  split_ifs <;> omega

theorem TestRecord.factor_of_no_report {t : TestRecord} (none_ : t.count = 0) : t.factor = 0 := if_pos none_

theorem tdiv_natCast_nonpos {x : Int} (nonpos : x ≤ 0) (n : Nat) : x.tdiv n ≤ 0 := by
  have mirrored := Int.tdiv_nonneg (Int.neg_nonneg_of_nonpos nonpos) n.cast_nonneg
  rw [Int.neg_tdiv] at mirrored
  exact Int.neg_nonneg.mp mirrored

theorem TestRecord.factor_of_neg {t : TestRecord} (counted : 0 < t.count) (neg : t.accumulator < 0) :
    t.factor = 0 := by
  have mean : t.accumulator.tdiv t.count ≤ 0 := tdiv_natCast_nonpos neg.le t.count
  have scaled : (t.accumulator.tdiv t.count * 4096).tdiv t.power ≤ 0 :=
    tdiv_natCast_nonpos (by omega) t.power
  rw [TestRecord.factor, if_neg (by omega), clamp]
  split_ifs <;> omega

theorem TestRecord.factor_of_nonneg {t : TestRecord} (counted : 0 < t.count) (nonneg : 0 ≤ t.accumulator) :
    t.factor = min 4096 (t.accumulator.toNat / t.count * 4096 / t.power) := by
  obtain ⟨n, total⟩ := Int.eq_ofNat_of_zero_le nonneg
  have quotient : ((n : Int).tdiv t.count * 4096).tdiv t.power = (n / t.count * 4096 / t.power : Nat) := rfl
  rw [TestRecord.factor, if_neg (by omega), total, quotient, Int.toNat_natCast, clamp]
  generalize n / t.count * 4096 / t.power = g
  split_ifs <;> omega

/-- With one unit under test, the timer's expiry completes that unit's test. -/
theorem State.testExpiry_eq {s : State} {a : Nat} {u : UnitRecord} {t : TestRecord} (sound : FleetSound s)
    (found : Fleet.get s.fleet a = some u) (test : u.mode = .test t) :
    s.testExpiry = ((s.setUnit a { u with
        g := t.factor
        bars := { u.bars with lowResponse := decide (t.factor < s.profile.nat .gMin) }
        mode := .plain t.prior
        lastTest := some (if decide (t.factor < s.profile.nat .gMin) then .low t.factor
          else .passed t.factor) }).post .test).postIf
      (decide (t.factor < s.profile.nat .gMin) != u.bars.lowResponse) .unit := by
  obtain ⟨-, -, -, one, -⟩ := sound
  have under := Fleet.underTest_eq_some one found (by rw [UnitRecord.inTest, test])
  simp only [State.testExpiry, under, found, UnitRecord.completeTest, test, BarReasons.withLow_bne]

/-- Settles O30: a test starts where every check passes, and its expiry completes the one test there is. -/
theorem testsStartAndComplete : Obligations.TestsStartAndComplete := by
  refine ⟨fun s tag a serves => ⟨fun bad => ?_, fun low high vacant => ?_⟩,
    fun s tag a u serves low high found => ⟨fun running => ?_, fun quiet fails => ?_,
      fun r m quiet live unbarred plain on noEpisode report enough => ?_⟩,
    fun s a u t running sound found test => ?_⟩
  · apply request_refused serves serves.idle
    simp only [answerUnitTest, addressOf_single_eq_none bad]
  · apply request_refused serves serves.idle
    simp only [answerUnitTest, addressOf_single low high, State.heard_enter_fleet, vacant]
  · apply request_refused serves serves.idle
    refine answerUnitTest_testRunning (u := u) (addressOf_single low high) ?_ ?_ <;>
      rwa [State.heard_enter_fleet]
  · apply request_refused serves serves.idle
    refine answerUnitTest_wrongState (u := u) (addressOf_single low high) ?_ ?_ ?_
    · rwa [State.heard_enter_fleet]
    · rwa [State.heard_enter_fleet]
    · rwa [State.heard_enter_delivery, State.heard_enter_profile]
  · have start : u.startTest s.time s.profile r = { u with mode := .test ⟨s.time, m, r.power,
        r.maxDischarge * s.profile.nat .testFraction / 100 / 10 * 10, s.profile.nat .testDuration, 0, 0⟩ } := by
      rw [UnitRecord.startTest, plain]
      rfl
    rw [← start]
    refine request_answered serves (t := s.setUnit a.toNat (u.startTest s.time s.profile r)) ?_ ?_
    · rw [State.setUnit_port, serves.idle]
    · have served := @answerUnitTest_starts ((s.heard .market).enter .market .unitTest tag) [a] a.toNat u r
      simp only [State.heard_enter_fleet, State.heard_enter_delivery, State.heard_enter_profile,
        State.heard_enter_time, State.setUnit_heard_enter] at served
      exact served (addressOf_single low high) found quiet
        (UnitRecord.eligible_of live unbarred plain on) noEpisode report enough
  · refine ⟨t.factor, _, t.factor_le, TestRecord.factor_of_no_report, TestRecord.factor_of_neg,
      TestRecord.factor_of_nonneg, rfl, ?_⟩
    exact (whenRunning_running State.testExpiry running).trans
      (congrArg _ (State.testExpiry_eq sound found test))

end Sys2Proof.Machine

/-! PROOFS. The sums of a dispatch cycle: R, R′ and R″ (R109 to R112). -/

namespace Sys2Proof.Machine

/-! ### Powers between 0 and a power: neither greater nor of the opposite sign (R112) -/

section Between

variable {x y z a b : Int} {k : Nat}

theorem mem_uIcc_zero_trans (outer : y ∈ Set.uIcc 0 x) (inner : z ∈ Set.uIcc 0 y) : z ∈ Set.uIcc 0 x :=
  Set.uIcc_subset_uIcc_left outer inner

theorem natAbs_le_of_mem_uIcc (between : y ∈ Set.uIcc 0 x) : y.natAbs ≤ x.natAbs := by
  rw [Set.mem_uIcc] at between
  omega

theorem nonneg_of_mem_uIcc (between : y ∈ Set.uIcc 0 x) (nonneg : 0 ≤ x) : 0 ≤ y := by
  rw [Set.uIcc_of_le nonneg] at between
  exact between.1

theorem nonpos_of_mem_uIcc (between : y ∈ Set.uIcc 0 x) (nonpos : x ≤ 0) : y ≤ 0 := by
  rw [Set.uIcc_of_ge nonpos] at between
  exact between.2

theorem trunc10_mem_uIcc (x : Int) : trunc10 x ∈ Set.uIcc 0 x := by
  rw [Set.mem_uIcc, trunc10, Int.tdiv_eq_ediv, show Int.sign 10 = 1 from rfl]
  split_ifs <;> omega

theorem clamp_mem_uIcc (low : a ≤ 0) (high : 0 ≤ b) : clamp x a b ∈ Set.uIcc 0 x := by
  rw [Set.mem_uIcc, clamp]
  split_ifs <;> omega

theorem clamp_eq_max_min (ordered : a ≤ b) : clamp x a b = max a (min b x) := by
  unfold clamp
  split_ifs <;> omega

/-- A factor of at most 4096 in 1/4096 shrinks a power. -/
theorem scaled_mem_uIcc (x : Int) (small : k ≤ 4096) : (x * k).tdiv 4096 ∈ Set.uIcc 0 x := by
  have product : x * k ∈ Set.uIcc 0 (x * 4096) := by
    have bound : (k : Int) ≤ 4096 := by exact_mod_cast small
    rw [Set.mem_uIcc]
    obtain nonneg | nonpos := le_total 0 x
    · exact .inl ⟨mul_nonneg nonneg k.cast_nonneg, mul_le_mul_of_nonneg_left bound nonneg⟩
    · exact .inr ⟨mul_le_mul_of_nonpos_left bound nonpos,
        mul_nonpos_of_nonpos_of_nonneg nonpos k.cast_nonneg⟩
  rw [Set.mem_uIcc] at product ⊢
  rw [Int.tdiv_eq_ediv, show Int.sign 4096 = 1 from rfl]
  split_ifs <;> omega

end Between

/-! ### The feeder's factor and R′ (R104, R110) -/

section Feeder

variable {t : Thermal} {x : Int}

theorem Thermal.throttles_eq_false_iff {upward : Bool} :
    t.throttles upward = false ↔
      (upward = true ∧ t.direction = .down) ∨ (upward = false ∧ t.direction = .up) := by
  unfold Thermal.throttles
  cases t.direction <;> simp

theorem Thermal.scale_eq_feederFactor (nonzero : x ≠ 0) : t.scale (decide (0 < x)) = feederFactor t x := by
  have spared : t.throttles (decide (0 < x)) = false ↔
      (0 < x ∧ t.direction = .down) ∨ (x < 0 ∧ t.direction = .up) := by
    have other_sign : ¬0 < x ↔ x < 0 := by omega
    rw [Thermal.throttles_eq_false_iff, decide_eq_true_iff, decide_eq_false_iff_not, other_sign]
  unfold Thermal.scale feederFactor
  by_cases free : (0 < x ∧ t.direction = .down) ∨ (x < 0 ∧ t.direction = .up)
  · rw [if_pos free, spared.mpr free]
    rfl
  · refine (if_pos (Bool.of_not_eq_false (mt spared.mp free))).trans (Eq.trans ?_ (if_neg free).symm)
    cases t.zone <;> rfl

/-- A power of 0 has no direction, and every factor leaves it 0. -/
theorem Thermal.permit_eq (t : Thermal) (x : Int) : t.permit x = (x * feederFactor t x).tdiv 4096 := by
  unfold Thermal.permit
  obtain rfl | nonzero := eq_or_ne x 0
  · simp only [zero_mul]
  · rw [Thermal.scale_eq_feederFactor nonzero]

theorem feederFactor_le (small : t.factor ≤ 4096) : feederFactor t x ≤ 4096 := by
  unfold feederFactor
  split
  · exact le_rfl
  · cases t.zone
    · exact le_rfl
    · exact small
    · exact Nat.zero_le _

theorem feederFactor_of_normal (normal : t.zone = .normal) : feederFactor t x = 4096 := by
  rw [feederFactor, normal]
  exact ite_self _

theorem Thermal.permit_mem_uIcc (small : t.factor ≤ 4096) : t.permit x ∈ Set.uIcc 0 x := by
  rw [Thermal.permit_eq]
  exact scaled_mem_uIcc x (feederFactor_le small)

theorem Thermal.permit_of_normal (normal : t.zone = .normal) : t.permit x = x := by
  rw [Thermal.permit_eq, feederFactor_of_normal normal]
  exact Int.mul_tdiv_cancel x (by decide)

end Feeder

/-! ### The weights and R″ (R111, R112) -/

section Weights

variable {u : UnitRecord} (f : Fleet) (l : List Sides) (side : Side) (w : Sides) (x : Int)

theorem Sides.get_sum : (Sides.sum l).get side = (l.map (Sides.get · side)).sum := by
  induction l with
  | nil => cases side <;> rfl
  | cons first rest ih =>
    rw [List.map_cons, List.sum_cons, ← ih]
    cases side <;> rfl

theorem Fleet.weights_get : (Fleet.weights f).get side = (f.map fun e => e.2.weight.get side).sum := by
  rw [Fleet.weights, Sides.get_sum, Fleet.units, List.map_map, List.map_map]
  rfl

theorem UnitRecord.weight_of_ineligible (ineligible : u.eligible = false) : u.weight = ⟨0, 0⟩ := by
  rw [UnitRecord.weight, ineligible]
  rfl

theorem UnitRecord.weight_of_auto (eligible : u.eligible = true) (auto : u.mode = .plain .auto) :
    u.weight = u.live := by
  rw [UnitRecord.weight, eligible, auto]
  rfl

theorem UnitRecord.weight_of_manual {d : Sides} (eligible : u.eligible = true)
    (manual : u.mode = .plain (.manual d)) : u.weight = ⟨min u.live.up d.up, min u.live.down d.down⟩ := by
  rw [UnitRecord.weight, eligible, manual]
  rfl

theorem fleetCap_mem_uIcc : fleetCap x w ∈ Set.uIcc 0 x :=
  mem_uIcc_zero_trans (clamp_mem_uIcc (by omega) (by omega)) (trunc10_mem_uIcc _)

theorem fleetCap_eq : fleetCap x w = (max (-(w.down : Int)) (min w.up x)).tdiv 10 * 10 := by
  rw [fleetCap, clamp_eq_max_min (by omega), trunc10]

theorem fleetCap_emod_ten : fleetCap x w % 10 = 0 := Int.mul_emod_left _ _

end Weights

/-! ### The list and the result (R79, R120) -/

theorem Book.levelList_eq (b : Book) : b.levelList = b.records.filterMap fun c =>
    match c.standing with
    | .pending => none
    | .inForce l => some ⟨c.id, c.snapshot.product, l.level, l.power⟩
    | .overrun l => some ⟨c.id, c.snapshot.product, l.level, l.power⟩ := by
  refine List.filterMap_congr fun c _ => ?_
  unfold Commitment.level
  cases c.standing <;> rfl

/-- Settles O46: R′ lies between 0 and R, and R″ between 0 and R′. -/
theorem fleetSumsOnlyShrink : Obligations.FleetSumsOnlyShrink := by
  refine ⟨?_, fun u => ⟨UnitRecord.weight_of_ineligible, UnitRecord.weight_of_auto,
    fun _ => UnitRecord.weight_of_manual⟩, Book.levelList_eq⟩
  rintro list t f r small rfl
  have feeder : t.permit (sumPowers list) ∈ Set.uIcc 0 (sumPowers list) := Thermal.permit_mem_uIcc small
  have cap := fleetCap_mem_uIcc (Fleet.weights f) (t.permit (sumPowers list))
  have both := mem_uIcc_zero_trans feeder cap
  exact ⟨rfl, natAbs_le_of_mem_uIcc cap, natAbs_le_of_mem_uIcc feeder,
    fun nonneg => ⟨nonneg_of_mem_uIcc feeder nonneg, nonneg_of_mem_uIcc both nonneg⟩,
    fun nonpos => ⟨nonpos_of_mem_uIcc feeder nonpos, nonpos_of_mem_uIcc both nonpos⟩,
    fleetCap_emod_ten _ _, Thermal.permit_of_normal, t.permit_eq _,
    ⟨_, _, Fleet.weights_get f .up, Fleet.weights_get f .down, fleetCap_eq _ _⟩, rfl⟩

end Sys2Proof.Machine

/-! PROOFS. The port requests that judge the attention lines: NOTICE-READ (R162), NOTICE-MASK (R163) and
PARAM-SET (R159). -/

namespace Sys2Proof.Machine

/-! ### A profile put in force, port by port (R163 to R165) -/

section Judging

variable (x : PortState) (old : Bool) (enables : NoticeSet)

/-- Into LEVEL, or unchanged in it: any pulse ends and the line follows the set (R164). -/
theorem PortState.rejudge_level :
    x.rejudge old false enables = { x with line := x.notices &&& enables != 0, gap := false, owed := 0 } :=
  rfl

/-- Into PULSE: the line goes low and nothing is owed (R165). -/
theorem PortState.rejudge_into_pulse :
    x.rejudge false true enables = { x with line := false, gap := false, owed := 0 } := rfl

/-- Unchanged in PULSE: no pulse is given (R163, R165). -/
theorem PortState.rejudge_pulse : x.rejudge true true enables = x := rfl

/-- A judgement takes no notice of the request in service. -/
theorem PortState.rejudge_with (new : Bool) (r : Receiver) (v : Option Service) :
    { x with receiver := r, service := v }.rejudge old new enables
      = { x.rejudge old new enables with receiver := r, service := v } := by
  cases new
  · rfl
  · cases old <;> rfl

/-- A sound port whose mode stays: the line alone moves, and in LEVEL mode alone. -/
theorem PortState.rejudge_of_sound {x : PortState} {carried before : NoticeSet} {pulse : Bool}
    (sound : x.sound carried before pulse) :
    x.rejudge pulse pulse enables
      = { x with line := if pulse then x.line else x.notices &&& enables != 0 } := by
  obtain ⟨-, level, -⟩ := sound
  cases pulse
  · obtain ⟨-, gap, owed⟩ := level rfl
    simp [PortState.rejudge_level, gap, owed]
  · exact x.rejudge_pulse enables

/-- A sound port whose mode and enable set stay keeps its line. -/
theorem PortState.rejudge_unchanged {x : PortState} {carried enables : NoticeSet} {pulse : Bool}
    (sound : x.sound carried enables pulse) : x.rejudge pulse pulse enables = x := by
  rw [PortState.rejudge_of_sound enables sound]
  obtain ⟨-, level, -⟩ := sound
  cases pulse
  · obtain ⟨line, -, -⟩ := level rfl
    rw [if_neg Bool.false_ne_true, ← line]
  · rfl

end Judging

/-- What putting a profile in force does to the part: the profile and the two ports. -/
theorem State.putProfile_eq (s : State) (p : Profile) :
    s.putProfile p = { s with
      profile := p, market := (s.putProfile p).market, operator := (s.putProfile p).operator } := rfl

theorem State.putProfile_port (s : State) (p : Profile) (port : Port) :
    (s.putProfile p).port port
      = (s.port port).rejudge (s.profile.pulseMode port) (p.pulseMode port) (p.enables port) := by
  cases port <;> rfl

/-- A profile that leaves the other port as it was moves one port. -/
theorem State.putProfile_eq_setPort {s : State} {p : Profile} {port : Port}
    (others : ∀ q, q ≠ port → (s.putProfile p).port q = s.port q) :
    s.putProfile p = ({ s with profile := p } : State).setPort port ((s.putProfile p).port port) := by
  refine (s.putProfile_eq p).trans ?_
  cases port
  case market =>
    have operator : (s.putProfile p).operator = s.operator := others .operator (by decide)
    rw [operator]
    rfl
  case operator =>
    have market : (s.putProfile p).market = s.market := others .market (by decide)
    rw [market]
    rfl

theorem State.putProfile_port_service (s : State) (p : Profile) (port : Port) :
    ((s.putProfile p).port port).service = (s.port port).service := by
  obtain ⟨y, judged, frame⟩ := (s.port port).rejudge_eq (s.profile.pulseMode port) (p.pulseMode port)
    (p.enables port)
  rw [State.putProfile_port, judged, frame]

/-- A profile put in force takes no notice of the request in service. -/
theorem State.putProfile_heard_enter (s : State) (port : Port) (kind : RequestKind) (tag : Byte)
    (p : Profile) :
    ((s.heard port).enter port kind tag).putProfile p
      = ((s.putProfile p).heard port).enter port kind tag := by
  rw [State.heard_enter_eq, State.heard_enter_eq, State.putProfile_port, ← PortState.rejudge_with]
  cases port <;> rfl

/-! ### NOTICE-READ (R162) -/

/-- What NOTICE-READ leaves of the port: in LEVEL mode no kind is pending and the line is low. -/
theorem PortState.judgeAfterRead_empty (x : PortState) (pulse : Bool) (enables : NoticeSet) :
    { x with notices := 0 }.judgeAfterRead pulse enables
      = { x with notices := 0, line := pulse && x.line } := by
  cases pulse
  · simp [PortState.judgeAfterRead, PortState.judgeLevel]
  · rfl

/-- Settles O13: the set answered is the one taken away, and the line is judged on the empty set. -/
theorem noticeReadReturnsAndClears : Obligations.NoticeReadReturnsAndClears := by
  intro s port tag serves
  refine request_answered serves ?_ ?_
  · rw [State.setPort_port, serves.idle]
  · rw [answerNoticeRead, PortState.judgeAfterRead_empty]
    simp [State.heard_enter_eq]

/-! ### NOTICE-MASK (R163) -/

/-- The kinds selected take the value's enables, the others keep theirs (R163). -/
theorem hasNotice_maskedEnables (enables select value : NoticeSet) (k : Notice) :
    hasNotice (maskedEnables enables select value) k =
      if hasNotice select k then hasNotice value k else hasNotice enables k := by
  have inSet : k.bit < 12 := by cases k <;> decide
  have bits : hasNotice (maskedEnables enables select value) k
      = (hasNotice enables k && !hasNotice select k || hasNotice value k && hasNotice select k) := by
    simp [hasNotice, maskedEnables, inSet]
  rw [bits]
  cases hasNotice select k <;> simp

theorem enableParam_injective : Function.Injective enableParam := by
  intro q port same
  cases q <;> cases port <;> simp_all [enableParam]

section EnableSet

variable (p : Profile) (port : Port) (e : NoticeSet)

@[simp] theorem Profile.enables_put_enableParam :
    (p.put (enableParam port) e.toNat).enables port = e := by
  rw [Profile.enables, Profile.get_put_self, BitVec.ofInt_natCast, BitVec.ofNat_toNat, BitVec.setWidth_eq]

theorem Profile.enables_put_enableParam_ne {q : Port} (v : Int) (other : q ≠ port) :
    (p.put (enableParam port) v).enables q = p.enables q := by
  rw [Profile.enables, Profile.get_put_ne p v (enableParam_injective.ne other), Profile.enables]

/-- An enable set is no attention mode. -/
@[simp] theorem Profile.pulseMode_put_enableParam (q : Port) (v : Int) :
    (p.put (enableParam port) v).pulseMode q = p.pulseMode q := by
  have differ : attentionParam q ≠ enableParam port := by cases q <;> cases port <;> decide
  rw [Profile.pulseMode, Profile.get_put_ne p v differ, Profile.pulseMode]

end EnableSet

/-- One port's enable set replaced under sound ports: that port's line is judged, and the other port is as
it was. -/
theorem State.putProfile_enables {s : State} (sound : PortsSound s) (port : Port) (e : NoticeSet) :
    s.putProfile (s.profile.put (enableParam port) e.toNat)
      = ({ s with profile := s.profile.put (enableParam port) e.toNat } : State).setPort port
          { s.port port with
            line := if s.profile.pulseMode port then (s.port port).line
              else (s.port port).notices &&& e != 0 } := by
  obtain ⟨ports, -⟩ := sound
  rw [← PortState.rejudge_of_sound e (ports port), State.putProfile_eq_setPort (port := port)]
  · rw [State.putProfile_port, Profile.pulseMode_put_enableParam, Profile.enables_put_enableParam]
  · intro q other
    rw [State.putProfile_port, Profile.pulseMode_put_enableParam,
      Profile.enables_put_enableParam_ne _ _ _ other, PortState.rejudge_unchanged (ports q)]

/-- Settles O14: a set of kinds the port carries goes to the profile, and the port's line is judged on it. -/
theorem noticeMaskWritesSelectedEnables : Obligations.NoticeMaskWritesSelectedEnables := by
  intro s port tag body serves sound
  refine ⟨fun foreign => ?_, fun carried => ⟨maskedEnables (s.profile.enables port) (noticeField body 0)
    (noticeField body 2), _, hasNotice_maskedEnables _ _ _, Profile.enables_put_enableParam s.profile _ _,
    fun i differ => Profile.get_put_ne _ _ differ, ?_⟩⟩
  · apply request_refused serves serves.idle
    exact if_pos (bne_iff_ne.mpr foreign)
  · rw [← State.putProfile_enables sound]
    refine request_answered serves ?_ ?_
    · rw [State.putProfile_port_service, serves.idle]
    · have taken : ¬(noticeField body 0 &&& ~~~(carriedNotices port) != 0) = true := by
        simpa [noticeField] using carried
      simp only [answerNoticeMask, if_neg taken, State.heard_enter_profile, State.putProfile_heard_enter]

/-! ### PARAM-SET (R159) -/

theorem ParamId.code_of_ofCode {code : Nat} {i : ParamId} (h : ParamId.ofCode code = some i) :
    i.code = code := by
  simpa using List.find?_some h

/-- A numeric range is no empty one (Table 11-2). -/
theorem ParamId.range_ordered {i : ParamId} {lo hi : Int} (h : i.range = .numeric lo hi) : lo ≤ hi := by
  cases i <;> simp only [ParamId.range, ParamRange.numeric.injEq, reduceCtorEq] at h <;> omega

theorem appliedValue_of_numeric {i : ParamId} {lo hi : Int} (range : i.range = .numeric lo hi) (v : Int) :
    appliedValue i v = some (max lo (min hi v)) := by
  rw [← clamp_eq_max_min (ParamId.range_ordered range), appliedValue, range]

theorem appliedValue_of_mode {i : ParamId} (range : i.range = .mode) (v : Int) :
    appliedValue i v = if v = 0 ∨ v = 1 then some v else none := by
  rw [appliedValue, range]

theorem appliedValue_of_members {i : ParamId} {mask : Nat} (range : i.range = .members mask) (v : Int) :
    appliedValue i v = some (((v % 4294967296).toNat &&& mask : Nat) : Int) := by
  rw [appliedValue, range]
  rfl

/-- The value applied, by the three kinds of range. -/
theorem appliedValue_eq_some {i : ParamId} {v w : Int}
    (numeric : ∀ lo hi, i.range = .numeric lo hi → w = max lo (min hi v))
    (mode : i.range = .mode → w = v ∧ (w = 0 ∨ w = 1))
    (members : ∀ mask, i.range = .members mask → w = ((v % 4294967296).toNat &&& mask : Nat)) :
    appliedValue i v = some w := by
  cases range : i.range with
  | numeric lo hi => rw [appliedValue_of_numeric range, ← numeric lo hi range]
  | mode =>
    obtain ⟨rfl, listed⟩ := mode range
    rw [appliedValue_of_mode range, if_pos listed]
  | members mask => rw [appliedValue_of_members range, ← members mask range]

/-- A profile breaks an order of R159 when one of the parameters that order names is written. -/
theorem breaksOrder_iff (p : Profile) (i : ParamId) :
    breaksOrder p i = true ↔
      (i ∈ [ParamId.thetaLo, .thetaHi, .thetaCrit] ∧
        (p.get .thetaHi ≤ p.get .thetaLo ∨ p.get .thetaCrit ≤ p.get .thetaHi)) ∨
      (i ∈ [ParamId.deadband, .fullDeviation] ∧ p.get .fullDeviation ≤ p.get .deadband) := by
  unfold breaksOrder
  split
  case h_6 => simp_all  -- a parameter neither order names
  all_goals simp

section ParamSet

variable {s : State} {body : List Byte} {i : ParamId} {v : Int}

theorem answerParamSet_badField (listed : ParamId.ofCode (field body 0 1) = some i)
    (rejected : appliedValue i (fieldInt body 1 4) = none) :
    answerParamSet body s = (s, .refused .badField) := by
  simp only [answerParamSet, listed, rejected]

theorem answerParamSet_applied (listed : ParamId.ofCode (field body 0 1) = some i)
    (applied : appliedValue i (fieldInt body 1 4) = some v) :
    answerParamSet body s =
      if breaksOrder (s.profile.put i v) i then (s, .refused .order)
      else (s.putProfile (s.profile.put i v), .done (be 1 (field body 0 1) ++ beInt 4 v)) := by
  simp only [answerParamSet, listed, applied, ParamId.code_of_ofCode listed]
  rfl

end ParamSet

/-- Settles O56: the value applied is refused where it breaks an order, and is put in force otherwise. -/
theorem paramSetWritesOneParameter : Obligations.ParamSetWritesOneParameter := by
  intro s tag body serves
  refine ⟨fun unlisted => ?_, fun i listed range notZero notOne => ?_,
    fun i v listed numeric mode members => ⟨s.profile.put i v, Profile.get_put_self _ _ _,
      fun j differ => Profile.get_put_ne _ _ differ, fun broken => ?_, fun thresholds deviations =>
      ⟨s.putProfile (s.profile.put i v), s.putProfile_eq _, ?_, fun port => ?_⟩⟩⟩
  · apply request_refused serves serves.idle
    simp only [answerParamSet, unlisted]
  · apply request_refused serves serves.idle
    exact answerParamSet_badField listed
      ((appliedValue_of_mode range _).trans (if_neg (not_or.mpr ⟨notZero, notOne⟩)))
  · apply request_refused serves serves.idle
    rw [answerParamSet_applied listed (appliedValue_eq_some numeric mode members),
      State.heard_enter_profile, if_pos ((breaksOrder_iff _ _).mpr broken)]
  · have ordered : ¬breaksOrder (s.profile.put i v) i = true := by
      rw [breaksOrder_iff]
      rintro (⟨named, unordered⟩ | ⟨named, unordered⟩)
      · have ⟨loHi, hiCrit⟩ := thresholds named
        omega
      · exact absurd (deviations named) (not_lt.mpr unordered)
    refine request_answered serves ?_ ?_
    · rw [State.putProfile_port_service, serves.idle]
    · rw [answerParamSet_applied listed (appliedValue_eq_some numeric mode members),
        State.heard_enter_profile, if_neg ordered, State.putProfile_heard_enter]
  · obtain ⟨x, judged, frame⟩ := (s.port port).rejudge_eq (s.profile.pulseMode port)
      ((s.profile.put i v).pulseMode port) ((s.profile.put i v).enables port)
    refine ⟨x, (s.putProfile_port _ _).trans judged, frame, fun level => ?_, fun into before => ?_,
      fun stays before => ?_⟩
    · rw [← judged, level, PortState.rejudge_level]
      exact ⟨rfl, rfl, rfl⟩
    · rw [← judged, into, before, PortState.rejudge_into_pulse]
      exact ⟨rfl, rfl, rfl⟩
    · rw [← judged, stays, before, PortState.rejudge_pulse]

end Sys2Proof.Machine

/-! PROOFS. The postings, and the records that leave the book together: what each writes, once. -/

namespace Sys2Proof.Machine

/-! ### Postings (R161): which ports they reach, and that a second posting of a kind changes nothing -/

section Postings

variable (s : State)

@[simp] theorem hasNotice_market (k : Notice) : hasNotice (carriedNotices .market) k = true := by
  cases k <;> rfl

/-- What a posting leaves, written out: the ports that carry the kind take it. -/
theorem State.post_ports (k : Notice) :
    s.post k = { s with
      market := s.market.post (s.profile.pulseMode .market) (s.profile.enables .market) k
      operator := if hasNotice (carriedNotices .operator) k = true then
          s.operator.post (s.profile.pulseMode .operator) (s.profile.enables .operator) k
        else s.operator } := by
  simp only [State.post, State.postOn, hasNotice_market, if_true]
  split <;> rfl

/-- The book, the planning array and the marked set, written together. -/
def State.withBook (book : Book) (plan : Plan) (marked : List Nat) : State :=
  { s with book := book, plan := plan, marked := marked }

section WithBook

variable (b : Book) (p : Plan) (m : List Nat)

@[simp] theorem State.withBook_book : (s.withBook b p m).book = b := rfl
@[simp] theorem State.withBook_plan : (s.withBook b p m).plan = p := rfl
@[simp] theorem State.withBook_marked : (s.withBook b p m).marked = m := rfl
@[simp] theorem State.withBook_clock : (s.withBook b p m).clock = s.clock := rfl
@[simp] theorem State.withBook_fleet : (s.withBook b p m).fleet = s.fleet := rfl
@[simp] theorem State.withBook_profile : (s.withBook b p m).profile = s.profile := rfl
@[simp] theorem State.withBook_levels : (s.withBook b p m).levels = s.levels := rfl

@[simp] theorem State.withBook_withBook (b' : Book) (p' : Plan) (m' : List Nat) :
    (s.withBook b p m).withBook b' p' m' = s.withBook b' p' m' := rfl

@[simp] theorem State.withBook_self : s.withBook s.book s.plan s.marked = s := rfl

/-- A posting reads nothing of the book. -/
theorem State.postIf_withBook (c : Bool) (k : Notice) :
    (s.withBook b p m).postIf c k = (s.postIf c k).withBook b p m := by
  cases c
  · rfl
  · simp only [State.postIf_true, State.post_ports]; rfl

end WithBook

theorem State.setRecords_eq (l : List Commitment) :
    s.setRecords l = s.withBook { s.book with records := l } s.plan s.marked := rfl

/-- A posting reads nothing of the clock. -/
theorem State.postIf_setClock (slot second : Nat) (c : Bool) (k : Notice) :
    (s.setClock slot second).postIf c k = (s.postIf c k).setClock slot second := by
  cases c
  · rfl
  · simp only [State.postIf_true, State.post_ports]; rfl

/-- A kind already pending changes nothing (R161). -/
theorem PortState.post_pending {x : PortState} {k : Notice} (pending : hasNotice x.notices k = true)
    (pulse : Bool) (enables : NoticeSet) : x.post pulse enables k = x := if_pos pending

@[simp] theorem State.post_post (k : Notice) : (s.post k).post k = s.post k := by
  have again : ∀ (x : PortState) (pulse : Bool) (enables : NoticeSet),
      (x.post pulse enables k).post pulse enables k = x.post pulse enables k :=
    fun x pulse enables => PortState.post_pending (x.post_has pulse enables k) pulse enables
  simp only [State.post_ports]
  split <;> simp only [again]

@[simp] theorem State.postIf_postIf (a b : Bool) (k : Notice) :
    (s.postIf a k).postIf b k = s.postIf (a || b) k := by
  cases a <;> cases b <;> simp [State.postIf]

@[simp] theorem State.postIf_running (c : Bool) (k : Notice) : (s.postIf c k).running = s.running := by
  simp [State.running]

end Postings

/-! ### Records that leave together (R11, R19, R47, R55) -/

/-- The records of a book less those of some ids. -/
def Book.less (b : Book) (l : List Commitment) : Book :=
  { b with records := b.records.filter fun d => !(l.map Commitment.id).contains d.id }

/-- The part less some commitments, BOOK not yet posted: their records, sums and marks go. -/
def State.without (s : State) (l : List Commitment) : State :=
  s.withBook (s.book.less l) (l.foldl (fun p c => p.mapRows (PlanRow.uncommit c)) s.plan)
    (s.marked.filter fun i => !(l.map Commitment.id).contains i)

theorem State.without_nil (s : State) : s.without [] = s := by
  simp [State.without, Book.less]; rfl

/-- Removing a list of commitments removes their records, sums and marks, and posts BOOK if there are any. -/
theorem State.removeAll_eq (s : State) (l : List Commitment) :
    s.removeAll l = (s.without l).postIf (!l.isEmpty) .book := by
  induction l generalizing s with
  | nil => exact s.without_nil.symm
  | cons c l ih =>
    have both : ∀ i : Nat, (i != c.id && !(l.map Commitment.id).contains i)
        = !((c :: l).map Commitment.id).contains i := by
      intro i
      simp only [List.map_cons, List.contains_cons, Bool.not_or]
      cases h : i == c.id <;> simp [bne, h]
    have step : (s.removeCommitment c).without l = (s.without (c :: l)).post .book := by
      unfold State.removeCommitment State.without State.setRecords Book.less State.withBook
      simp only [State.post_ports, List.filter_filter, List.foldl_cons]
      simp only [Bool.and_comm _ (_ != c.id), both]
    change (s.removeCommitment c).removeAll l = _
    rw [ih, step]
    cases l <;> simp [State.postIf]

end Sys2Proof.Machine

/-! PROOFS. The Line Frequency Meter: each of its events as one change of the meter, with the measurement or the
Left VALID event it hands to the book and the FREQ it posts (R61 to R72, R84). -/

namespace Sys2Proof.Machine

/-! ### Level records changed in place -/

/-- Two changes of a level record that agree on the record's own are one. -/
theorem Commitment.mapLevel_congr {c : Commitment} {f g : LevelRecord → LevelRecord}
    (h : ∀ l ∈ c.level, f l = g l) : c.mapLevel f = c.mapLevel g := by
  unfold Commitment.mapLevel
  cases st : c.standing with
  | pending => rfl
  | inForce l => simp only [h l (by simp [Commitment.level, st])]
  | overrun l => simp only [h l (by simp [Commitment.level, st])]

@[simp] theorem Commitment.mapLevel_id (c : Commitment) : c.mapLevel (fun l => l) = c := by
  obtain ⟨id, ref, seq, start, stop, snapshot, capacity, requirement, standing, mark⟩ := c
  cases standing <;> rfl

/-- What a level record does when a measurement is taken: a TRIG record's phase counts it (R84). -/
def takenMeasurement (now nominal f : Nat) (snapshot : Snapshot) (l : LevelRecord) : LevelRecord :=
  match snapshot with
  | .trig deviation support _ _ => l.mapPhase (takeConfirmation now nominal f deviation support)
  | _ => l

theorem Commitment.takeMeasurement_eq (now nominal f : Nat) (c : Commitment) :
    c.takeMeasurement now nominal f = c.mapLevel (takenMeasurement now nominal f c.snapshot) := by
  unfold Commitment.takeMeasurement takenMeasurement
  cases c.snapshot <;> simp

/-- The Left VALID event as the statements write it (R67, R84). -/
theorem Book.leftValid_eq (b : Book) :
    b.leftValid = { b with
      records := b.records.map fun c => c.mapLevel fun l => l.mapPhase clearConfirmation } := by
  have cleared : ∀ l : LevelRecord, (match l.follower with
      | .trig (.ready _) => ⟨l.level, l.power, .trig (.ready 0)⟩
      | _ => l) = l.mapPhase clearConfirmation := by
    rintro ⟨level, power, follower⟩
    cases follower with
    | trig phase => cases phase <;> rfl
    | prop => rfl
    | setp => rfl
  unfold Book.leftValid Commitment.mapLevel
  simp only [← cleared] <;> rfl

theorem State.takeLeftValid_eq (s : State) : s.takeLeftValid = { s with book := s.book.leftValid } := by
  rw [Book.leftValid_eq]; rfl

/-! ### The shape of a meter event (R67, R68) -/

/-- The meter passes from VALID to INVALID or LOST (R67). -/
def Meter.leaves (before after : Meter) : Bool :=
  before.state == .valid && (after.state == .invalid || after.state == .lost)

/-- The book after a meter event: a measurement taken, or a Left VALID event, or neither (R67, R84). -/
def State.meterBook (s : State) (m : Meter) : Option Nat → Book
  | some f => { s.book with records := s.book.records.map (Commitment.takeMeasurement s.time s.nominal f) }
  | none => if s.meter.leaves m then s.book.leftValid else s.book

/-- A meter event: the meter becomes `m`, a measurement goes to the book, and FREQ is posted on a change of
state (R67, R68). -/
def State.meterEvent (s : State) (e : Meter × Option Nat) : State :=
  State.postIf { s with meter := e.1, book := s.meterBook e.1 e.2 } (e.1.state != s.meter.state) .freq

theorem State.postIf_with_meter (s : State) (c : Bool) (k : Notice) (m : Meter) (b : Book) :
    State.postIf { s with meter := m, book := b } c k = { s.postIf c k with meter := m, book := b } := by
  cases c
  · rfl
  · simp only [State.postIf_true, State.post_ports]

theorem State.moveMeter_event (s : State) (m : Meter) : s.moveMeter m = s.meterEvent (m, none) := by
  unfold State.moveMeter State.meterEvent State.meterBook Meter.leaves
  rw [State.postIf_with_meter s _ _ m s.book]
  simp only [State.postIf_with_meter, State.takeLeftValid_eq]
  split <;> rfl

theorem State.measure_event (s : State) {m : Meter} (valid : m.state = .valid) (f : Nat) :
    (s.moveMeter m).measure f = s.meterEvent ({ m with latest := some f }, some f) := by
  have stays : s.meter.leaves m = false := by simp [Meter.leaves, valid]
  rw [State.moveMeter_event]
  unfold State.measure State.takeMeasurement State.setRecords State.meterEvent State.meterBook
  simp only [stays, Bool.false_eq_true, if_false]
  cases m.state != s.meter.state
  · rfl
  · simp only [State.postIf_true, State.post_ports]
    rfl

/-- A field of the meter that is written around an event, the state kept, joins the event. -/
theorem State.meterEvent_counted (s : State) {m0 : Meter} (same : m0.state = s.meter.state)
    (e : Meter × Option Nat) : State.meterEvent { s with meter := m0 } e = s.meterEvent e := by
  obtain ⟨m, f⟩ := e
  unfold State.meterEvent State.meterBook Meter.leaves
  simp only [same]
  cases f <;> rfl

theorem State.meterEvent_finished (s : State) (e : Meter × Option Nat) (previous loss : Option Capture) :
    { s.meterEvent e with
      meter := { (s.meterEvent e).meter with previous := previous, lossCompare := loss } }
      = s.meterEvent ({ e.1 with previous := previous, lossCompare := loss }, e.2) := by
  obtain ⟨m, f⟩ := e
  have book : s.meterBook { m with previous := previous, lossCompare := loss } f = s.meterBook m f := by
    cases f <;> rfl
  unfold State.meterEvent
  simp only [book, State.postIf_with_meter]

theorem State.meterEvent_quiet (s : State) {m : Meter} (same : m.state = s.meter.state) :
    s.meterEvent (m, none) = { s with meter := m } := by
  have stays : s.meter.leaves m = false := by
    unfold Meter.leaves; rw [same]; cases s.meter.state <;> rfl
  simp [State.meterEvent, State.meterBook, stays, same]

/-! ### The meter's own part of each event -/

/-- A valid period (R63): the meter after it, and the measurement it gives. -/
def Meter.good (m : Meter) (p : Nat) : Meter × Option Nat :=
  let window := joinWindow m.window p
  let f := measuredFrequency window.sum
  if m.state = .valid ∨ (m.state = .acquiring ∧ window.length = 5) then
    ({ m with badRun := 0, window := window, state := .valid, latest := some f }, some f)
  else if m.state = .invalid then ({ m with badRun := 0, window := window, state := .acquiring }, none)
  else ({ m with badRun := 0, window := window }, none)

/-- The run of invalid periods or bad readings after one more (R64, R71). -/
def Meter.run (m : Meter) : Nat := min 255 (m.badRun + 1)

/-- An invalid period (R64). -/
def Meter.bad (m : Meter) : Meter :=
  if 3 ≤ m.run ∧ (m.state = .acquiring ∨ m.state = .valid) then
    { m with badRun := m.run, state := .invalid, window := [], latest := none }
  else { m with badRun := m.run }

/-- An edge captured in LOCAL (R61, R66). -/
def Meter.edge (high : Bool) (capture : Capture) (m : Meter) : Meter × Option Nat :=
  let e := match m.previous with
    | none =>
      (if m.state = MeterState.lost then { m with counter := capture, state := .acquiring, window := [], badRun := 0 }
        else { m with counter := capture }, none)
    | some previous =>
      if validPeriod high (capture - previous).toNat then
        { m with counter := capture }.good (capture - previous).toNat
      else ({ m with counter := capture }.bad, none)
  ({ e.1 with previous := some capture, lossCompare := some capture }, e.2)

/-- A relayed reading (R71). -/
def Meter.reading (nominal f : Nat) (timer : Timer) (m : Meter) : Meter × Option Nat :=
  if inBand nominal f then
    ({ m with silence := some timer, badRun := 0, state := .valid, latest := some f }, some f)
  else if 3 ≤ m.run ∧ m.state ≠ .invalid then
    ({ m with silence := some timer, badRun := m.run, state := .invalid, latest := none }, none)
  else ({ m with silence := some timer, badRun := m.run }, none)

/-- The loss compare's expiry (R65). -/
def Meter.lose (m : Meter) : Meter :=
  if m.lossCompare = none then m
  else if m.state = .lost then { m with lossCompare := none }
  else { m with
    state := .lost, window := [], latest := none, badRun := 0, previous := none, lossCompare := none }

/-- The silence timer's expiry (R72). -/
def Meter.fallSilent (m : Meter) : Meter :=
  if m.silence = none then m
  else if m.state = .valid ∨ m.state = .invalid then
    { m with silence := none, state := .lost, latest := none, badRun := 0 }
  else { m with silence := none }

theorem State.goodPeriod_event (s : State) (p : Nat) : s.goodPeriod p = s.meterEvent (s.meter.good p) := by
  unfold State.goodPeriod Meter.good
  dsimp only
  split
  case h_1 acquiring =>
    split
    case isTrue full =>
      rw [if_pos (Or.inr ⟨acquiring, full⟩)]
      exact s.measure_event rfl _
    case isFalse short =>
      rw [if_neg (by simp [acquiring, short]), if_neg (by simp [acquiring])]
      exact s.moveMeter_event _
  case h_2 valid =>
    rw [if_pos (Or.inl valid), ← valid]
    exact s.measure_event (m := { s.meter with badRun := 0, window := joinWindow s.meter.window p }) valid _
  case h_3 invalid =>
    rw [if_neg (by simp [invalid]), if_pos invalid]
    exact s.moveMeter_event _
  case h_4 lost =>
    rw [if_neg (by simp [lost]), if_neg (by simp [lost])]
    exact s.moveMeter_event _

theorem State.badPeriod_event (s : State) : s.badPeriod = s.meterEvent (s.meter.bad, none) := by
  unfold State.badPeriod Meter.bad Meter.run
  dsimp only
  split
  case h_1 measuring | h_2 measuring =>
    by_cases third : 3 ≤ min 255 (s.meter.badRun + 1)
    · rw [if_pos third, if_pos ⟨third, by simp [measuring]⟩]
      exact s.moveMeter_event _
    · rw [if_neg third, if_neg fun h => third h.1]
      exact s.moveMeter_event _
  case h_3 resting | h_4 resting =>
    rw [if_neg (by simp [resting])]
    exact s.moveMeter_event _

theorem State.firstEdge_event (s : State) :
    s.firstEdge = s.meterEvent (if s.meter.state = .lost then
      { s.meter with state := .acquiring, window := [], badRun := 0 } else s.meter, none) := by
  unfold State.firstEdge
  simp only [beq_iff_eq]
  split
  · exact s.moveMeter_event _
  · exact (s.meterEvent_quiet (m := s.meter) rfl).symm

/-- An edge in LOCAL is one meter event. -/
theorem State.edge_event {s : State} (local_ : s.straps.fsrcHigh = false) (capture : Capture) :
    s.edge capture = s.meterEvent (s.meter.edge s.straps.nomfHigh capture) := by
  unfold State.edge Meter.edge
  simp only [local_, Bool.false_eq_true, if_false]
  cases s.meter.previous with
  | none =>
    dsimp only
    rw [State.firstEdge_event, State.meterEvent_finished]
    exact s.meterEvent_counted (m0 := { s.meter with counter := capture, previous := none }) rfl _
  | some previous =>
    dsimp only
    split
    · rw [State.goodPeriod_event, State.meterEvent_finished]
      exact s.meterEvent_counted
        (m0 := { s.meter with counter := capture, previous := some previous }) rfl _
    · rw [State.badPeriod_event, State.meterEvent_finished]
      exact s.meterEvent_counted
        (m0 := { s.meter with counter := capture, previous := some previous }) rfl _

/-- A relayed reading is one meter event. -/
theorem State.reading_event (s : State) (f : Nat) :
    State.reading f s = s.meterEvent (s.meter.reading s.nominal f (s.arm (secCounts 1))) := by
  unfold State.reading Meter.reading
  split
  · exact s.measure_event rfl f
  · simp only [Bool.and_eq_true, decide_eq_true_eq, bne_iff_ne]
    unfold Meter.run
    split <;> exact s.moveMeter_event _

theorem State.lossExpiry_event (s : State) : s.lossExpiry = s.meterEvent (s.meter.lose, none) := by
  unfold State.lossExpiry Meter.lose
  simp only [Option.isNone_iff_eq_none, beq_iff_eq]
  split
  · exact (s.meterEvent_quiet rfl).symm
  · split
    · exact (s.meterEvent_quiet (m := { s.meter with lossCompare := none }) rfl).symm
    · exact s.moveMeter_event _

theorem State.silenceExpiry_event (s : State) :
    s.silenceExpiry = s.meterEvent (s.meter.fallSilent, none) := by
  unfold State.silenceExpiry Meter.fallSilent
  simp only [Option.isNone_iff_eq_none]
  split
  · exact (s.meterEvent_quiet rfl).symm
  · split
    case h_1 heard | h_2 heard =>
      rw [if_pos (by simp [heard])]
      exact s.moveMeter_event _
    case h_3 quiet | h_4 quiet =>
      rw [if_neg (by simp [quiet])]
      exact (s.meterEvent_quiet (m := { s.meter with silence := none }) rfl).symm

end Sys2Proof.Machine

/-! PROOFS. The boundary and the cycle computation, each as one change of the book and one posting of BOOK. -/

namespace Sys2Proof.Machine

/-! ### The boundary (R2, R11, R12, R49, R78) -/

/-- An IN_FORCE record that has ended at a boundary into slot `n` enters OVERRUN; the others stay (R11). -/
def Commitment.endOrStay (n : Nat) (c : Commitment) : Commitment :=
  if c.expired n && c.inPulse then c.overrun else c

/-- A PENDING record whose start slot is `n` begins; the others stay (R12, R78). -/
def Commitment.beginOrStay (n : Nat) (c : Commitment) : Commitment := if c.due n then c.begin else c

/-- The records that leave at a boundary into slot `n` (R11). -/
def Book.ended (b : Book) (n : Nat) : List Commitment :=
  (b.records.filter (Commitment.expired n)).filter fun c => !c.inPulse

/-- The book after a boundary into slot `n`. -/
def Book.settled (b : Book) (n : Nat) : Book :=
  { b with records := (b.less (b.ended n)).records.map fun c => (c.endOrStay n).beginOrStay n }

/-- The part after a boundary into slot `n`, the clock and the posting of BOOK aside. -/
def State.settled (n : Nat) (s : State) : State :=
  (s.without (s.book.ended n)).withBook (s.book.settled n)
    ((s.without (s.book.ended n)).plan.shift s.profile s.fleet n) (s.without (s.book.ended n)).marked

/-- A record ends or starts at a boundary into slot `n`, so BOOK is posted (R11, R12). -/
def Book.turns (b : Book) (n : Nat) : Bool := b.records.any fun c => c.expired n || c.due n

theorem Book.less_nil (b : Book) : b.less [] = b := by simp [Book.less]

/-- The postings of a boundary amount to one, made where a record ends or starts. -/
theorem Book.turns_eq (b : Book) (n : Nat) :
    (!(b.ended n).isEmpty || !(b.records.filter (Commitment.expired n)).isEmpty
      || ((b.less (b.ended n)).records.map (Commitment.endOrStay n)).any (Commitment.due n))
      = b.turns n := by
  by_cases none_ : b.records.filter (Commitment.expired n) = []
  · have not_expired : ∀ c ∈ b.records, c.expired n = false := by
      simpa [List.filter_eq_nil_iff] using none_
    have same : ∀ c ∈ b.records, c.endOrStay n = c := by
      intro c mem; simp [Commitment.endOrStay, not_expired c mem]
    have ended : b.ended n = [] := by rw [Book.ended, none_]; rfl
    rw [ended, Book.less_nil, List.map_congr_left same, none_, Bool.eq_iff_iff]
    simp only [List.map_id', List.isEmpty_nil, Bool.not_true, Bool.false_or, Book.turns,
      List.any_eq_true, Bool.or_eq_true]
    exact ⟨fun ⟨c, mem, due⟩ => ⟨c, mem, .inr due⟩,
      fun ⟨c, mem, either⟩ => ⟨c, mem, either.resolve_left (by simp [not_expired c mem])⟩⟩
  · obtain ⟨c, mem⟩ := List.exists_mem_of_ne_nil _ none_
    obtain ⟨mem, expired⟩ := List.mem_filter.mp mem
    have turns : b.turns n = true := List.any_eq_true.mpr ⟨c, mem, by simp [expired]⟩
    rw [turns]; simp [none_]

theorem State.endExpired_eq (n : Nat) (s : State) :
    s.endExpired n = State.postIf
      (s.withBook { s.book with records := (s.book.less (s.book.ended n)).records.map (Commitment.endOrStay n) }
        (s.without (s.book.ended n)).plan (s.without (s.book.ended n)).marked)
      (!(s.book.ended n).isEmpty || !(s.book.records.filter (Commitment.expired n)).isEmpty) .book := by
  unfold State.endExpired
  change (((s.removeAll (s.book.ended n)).setRecords
    ((s.removeAll (s.book.ended n)).book.records.map (Commitment.endOrStay n))).postIf _ .book) = _
  simp only [State.removeAll_eq, State.setRecords_eq, State.without, State.postIf_withBook,
    State.withBook_book, State.withBook_plan, State.withBook_marked, State.withBook_withBook,
    State.postIf_postIf]
  rfl

/-- A boundary settles the book and the array and posts BOOK at most once. -/
theorem State.boundary_eq (n : Nat) (s : State) :
    s.boundary n = (s.settled n).postIf (s.book.turns n) .book := by
  have shift : s.boundary n = ((s.endExpired n).startDue n).withBook ((s.endExpired n).startDue n).book
      (((s.endExpired n).startDue n).plan.shift ((s.endExpired n).startDue n).profile
        ((s.endExpired n).startDue n).fleet n) ((s.endExpired n).startDue n).marked := rfl
  have start : (s.endExpired n).startDue n = ((s.endExpired n).setRecords
      ((s.endExpired n).book.records.map (Commitment.beginOrStay n))).postIf
      ((s.endExpired n).book.records.any (Commitment.due n)) .book := rfl
  rw [shift, start, State.endExpired_eq, ← s.book.turns_eq]
  simp only [State.setRecords_eq, State.settled, State.without, State.postIf_withBook,
    State.withBook_book, State.withBook_plan, State.withBook_marked, State.withBook_withBook,
    State.withBook_profile, State.withBook_fleet, State.postIf_profile, State.postIf_fleet,
    State.postIf_postIf, List.map_map]
  rfl

/-- A boundary reads nothing of the clock. -/
theorem State.boundary_setClock (s : State) (n slot second : Nat) :
    (s.setClock slot second).boundary n = (s.boundary n).setClock slot second := by
  rw [State.boundary_eq, State.boundary_eq, ← State.postIf_setClock]
  rfl

/-- The clock's own advance into a slot that exists is a boundary (R1, R2). -/
theorem State.passBoundary_eq {s : State} (set : s.clock.set = true) (more : s.clock.slot < maxWord) :
    s.passBoundary = (s.boundary (s.clock.slot + 1)).setClock (s.clock.slot + 1) 0 := by
  unfold State.passBoundary
  rw [if_neg (by simp [set]), if_neg (by omega), State.boundary_setClock]

/-- A forward jump is its run of boundaries, and then the slot and second carried (R13). -/
theorem State.boundaries_eq (k : Nat) (s : State) (set : s.clock.set = true)
    (inside : s.clock.slot + k ≤ maxWord) (slot second : Nat) :
    (State.boundaries k s.clock.slot s).setClock slot second
      = (State.passBoundary^[k] s).setClock slot second := by
  have any_clock : ∀ (k held slot second a b : Nat) (s : State),
      (State.boundaries k held (s.setClock a b)).setClock slot second
        = (State.boundaries k held s).setClock slot second := by
    intro k
    induction k with
    | zero => intros; rfl
    | succ k ih =>
      intro held slot second a b s
      unfold State.boundaries
      rw [State.boundary_setClock, ih]
  induction k generalizing s with
  | zero => rfl
  | succ k ih =>
    rw [Function.iterate_succ_apply, State.passBoundary_eq set (by omega)]
    rw [← ih _ rfl (by rw [State.setClock_value]; simp only; omega), State.setClock_value]
    simp only
    rw [any_clock, State.boundaries]

/-! ### The cycle computation (R79) -/

/-- A cycle computation removes the records whose pulse ends, posting BOOK for them, and writes the rest. -/
theorem State.cycleComputation_eq (s : State) :
    s.cycleComputation =
      { (s.without (s.book.records.filter Commitment.endsPulse)).setRecords
          ((s.book.less (s.book.records.filter Commitment.endsPulse)).records.map
            (Commitment.cycle s.cycleInputs)) with
        levels := { s.levels with holdover := s.cycleInputs.holdover } }.postIf
        (!(s.book.records.filter Commitment.endsPulse).isEmpty) .book := by
  unfold State.cycleComputation
  rw [State.removeAll_eq]
  cases (s.book.records.filter Commitment.endsPulse).isEmpty
  · simp only [Bool.not_false, State.postIf_true, State.post_ports]; rfl
  · rfl

end Sys2Proof.Machine

/-! PROOFS. What a step can do: one list of the changes that every command is made of, each of one block. The
laws of the blocks are proved change by change from it. -/

namespace Sys2Proof.Machine

/-! ### The changes of one block -/

/-- What a level record does when its support timer expires: a FIRING record leaves FIRING (R85). -/
def endedSupport (now : Nat) (snapshot : Snapshot) (l : LevelRecord) : LevelRecord :=
  match snapshot with
  | .trig _ _ ramp lockout => l.mapPhase fun
    | .firing _ => if 0 < ramp then .releasing (5 * ramp) else enterLockout now lockout
    | phase => phase
  | _ => l

theorem Commitment.endSupport_eq (now : Nat) (c : Commitment) :
    c.endSupport now = c.mapLevel (endedSupport now c.snapshot) := by
  unfold Commitment.endSupport endedSupport
  cases c.snapshot
  case trig => rfl
  all_goals exact c.mapLevel_id.symm

/-- The link as a round's completion leaves it before the next walk begins (R128). -/
def State.withRound (s : State) (timer : Timer) : State :=
  { s with link := { s.link with
      round := if maxWord ≤ s.link.round then 0 else s.link.round + 1
      startIndex := advanceIndex s.link.startIndex
      position := none
      roundTimer := some timer } }

/-- What a command does to a port beside a posting (R154 to R156, R162, R165, R17, R150). -/
inductive PortMove (s : State) (port : Port) : PortState → Prop
  | receiver (r : Receiver) : PortMove s port { s.port port with receiver := r }
  | service (v : Option Service) : PortMove s port { s.port port with service := v }
  | reply (r : Reply) (formed : r.isBusy = false) : PortMove s port ((s.port port).transmit r)
  | busy (kind tag : Byte) : PortMove s port ((s.port port).answerBusy kind tag)
  | sent : PortMove s port (s.port port).transmitted
  | cursors (b : Cursor Key) (l : Cursor Nat) :
      PortMove s port { s.port port with bookCursor := b, logCursor := l }
  | read : PortMove s port ({ s.port port with notices := 0 }.judgeAfterRead (s.profile.pulseMode port)
      (s.profile.enables port))
  | pulse (mode : s.profile.pulseMode port = true) : PortMove s port (s.port port).pulseTimer

/-- A profile that comes into force in place of the working one (R159, R163, R170). -/
inductive ProfileMove (s : State) : Profile → Prop
  | param (i : ParamId) (v w : Int) (applied : appliedValue i v = some w)
      (ordered : breaksOrder (s.profile.put i w) i = false) : ProfileMove s (s.profile.put i w)
  | mask (port : Port) (select value : NoticeSet) (carried : select &&& ~~~(carriedNotices port) = 0) :
      ProfileMove s (s.profile.put (enableParam port)
        (maskedEnables (s.profile.enables port) select value).toNat)
  | stored (slot : ProfileSlot) : ProfileMove s (s.store.slot slot).profile

/-- What becomes of the store (R167 to R169). -/
inductive StoreMove (s : State) : Store → Prop
  | saveOne : StoreMove s { s.store with
      slot1 := { s.store.slot1 with valid := false }
      write := some (.image false s.profile (s.fleet.map saveEntry)) }
  | saveTwo : StoreMove s { s.store with
      slot2 := { s.store.slot2 with valid := false }
      write := some (.image true s.profile (s.fleet.map saveEntry)) }
  | select (slot : ProfileSlot) : StoreMove s { s.store with
      selector := { s.store.selector with valid := false }, write := some (.selector slot) }
  | savedOne (p : Profile) (list : List EnrolEntry) (writing : s.store.write = some (.image false p list)) :
      StoreMove s { s.store with slot1 := ⟨p, list, true⟩, write := none }
  | savedTwo (p : Profile) (list : List EnrolEntry) (writing : s.store.write = some (.image true p list)) :
      StoreMove s { s.store with slot2 := ⟨p, list, true⟩, write := none }
  | selected (slot : ProfileSlot) :
      StoreMove s { s.store with selector := ⟨slot, true⟩, write := none }

/-- What becomes of the record at an address (R25, R28, R31, R34, R36). -/
inductive UnitMove (s : State) (a : Nat) (u : UnitRecord) : UnitRecord → Prop
  | mode (m : EnrolMode) (clearLow : Bool) (idle : u.inTest = false) (sound : m.sound) :
      UnitMove s a u (u.withMode m clearLow)
  | test (r : Report) (alone : Fleet.underTest s.fleet = none) (report : u.report = some r)
      (eligible : u.eligible = true) (some_ : testPower s.profile r ≠ 0) (now duration : Nat) :
      UnitMove s a u { u with
        mode := .test ⟨now, u.mode.enrolled, r.power, testPower s.profile r, duration, 0, 0⟩ }
  | report (frame : List Byte) (carried : CarriedReport) (good : judgeFrame a frame = .ok carried) :
      UnitMove s a u (u.takeReport carried)
  | failure (stale lost : Nat) : UnitMove s a u (u.failVisit stale lost)
  | complete (gMin : Nat) : UnitMove s a u (u.completeTest gMin)

/-- What becomes of the Fleet Table. -/
inductive FleetMove (s : State) : Fleet → Prop
  | enrol (a : Nat) (m : EnrolMode) (g : Nat) (low : 1 ≤ a) (high : a ≤ 240)
      (vacant : Fleet.get s.fleet a = none) (sound : m.sound) (inRange : g ≤ 4096) :
      FleetMove s (Fleet.put s.fleet a (UnitRecord.enrolled m g))
  | retire (a : Nat) : FleetMove s (Fleet.erase s.fleet a)
  | rebuild (slot : ProfileSlot) : FleetMove s (Fleet.ofEnrolment (s.store.slot slot).enrolment)
  | unit (a : Nat) (u v : UnitRecord) (found : Fleet.get s.fleet a = some u) (move : UnitMove s a u v) :
      FleetMove s (Fleet.put s.fleet a v)
  | headroom : FleetMove s (Fleet.mapUnits s.fleet fun u =>
      { u with live := liveHeadroom s.profile s.plan.currentSlot u })
  | dispatch (rotation : Nat) (asked : Int) : FleetMove s (s.fleet.map
      (dispatchUnit s.fleet rotation asked s.restores s.profile s.thermal))
  | baselines (opened : s.episodeOpen = true) :
      FleetMove s (Fleet.mapUnits s.fleet UnitRecord.takeBaseline)
  | aborts : FleetMove s (Fleet.mapUnits s.fleet UnitRecord.abortTest)

/-- What becomes of the level record of each commitment (R79, R84, R85, R87). -/
inductive LevelMove (s : State) : (Commitment → LevelRecord → LevelRecord) → Prop
  | measurement (f : Nat) : LevelMove s fun c => takenMeasurement s.time s.nominal f c.snapshot
  | leftValid : LevelMove s fun _ l => l.mapPhase clearConfirmation
  | cycle (x : CycleInputs) (target : x = s.cycleInputs) :
      LevelMove s fun c => cycleLevel x c.snapshot c.capacity
  | support (id : Nat) : LevelMove s fun c l => if c.id = id then endedSupport s.time c.snapshot l else l
  | lockout (id : Nat) : LevelMove s fun c l => if c.id = id then l.mapPhase endLockout else l

/-- What becomes of the meter (R61 to R65, R71, R72). -/
inductive MeterMove (s : State) : Meter → Prop
  | edge (capture : Capture) (local_ : s.straps.fsrcHigh = false) :
      MeterMove s (s.meter.edge s.straps.nomfHigh capture).1
  | reading (f : Nat) (timer : Timer) (m : Meter) (relayed : s.straps.fsrcHigh = true)
      (read : m = (s.meter.reading s.nominal f timer).1) : MeterMove s m
  | lose : MeterMove s s.meter.lose
  | fallSilent : MeterMove s s.meter.fallSilent

/-- What becomes of the fleet link (R126 to R135). -/
inductive LinkMove (s : State) : Link → Prop
  | sent : LinkMove s s.frameSent.link
  | quiet (timeout : Timer) (v : Visit) (buffer : List Byte) (phase : s.link.phase = .awaiting timeout)
      (visit : s.link.visit = some v) : LinkMove s (s.enterQuiet buffer).link
  | character : LinkMove s s.quietCharacter.link
  | expired (walking : s.link.phase ≠ .pacing) : LinkMove s { s.link with roundTimer := none }
  | walk (running : s.link.roundTimer.isSome = true ∨ s.nextVisit ≠ none) : LinkMove s s.startWalk.link
  | round (timer : Timer) : LinkMove s (s.withRound timer).startWalk.link
  | removed (leaves : Nat → Bool) : LinkMove s (s.link.markRemoved leaves)

/-- The commitment an award record becomes where it is admitted (R6, R7, R10). -/
def State.admitted (s : State) (r : AwardRecord) (seq : Nat) (snapshot : Snapshot) : Commitment :=
  r.commitment (freeId (s.book.records.map Commitment.id) 65 s.book.lastId) seq snapshot

/-- What becomes of the clock, the book, the planning array, the marks and the availability record. -/
inductive BookMove (s : State) : State → Prop
  | second (n : Nat) (set : s.clock.set = true) (inSlot : n ≤ 899 ∨ n = s.clock.second) :
      BookMove s (s.setClock s.clock.slot n)
  | first (slot n : Nat) (unset : s.clock.set = false) (slots : slot ≤ maxWord) (inSlot : n ≤ 899) :
      BookMove s { s.setClock slot n with plan := Plan.build s.profile s.fleet slot }
  | boundary (set : s.clock.set = true) (more : s.clock.slot < maxWord) :
      BookMove s ((s.settled (s.clock.slot + 1)).setClock (s.clock.slot + 1) 0)
  | award (r : AwardRecord) (seq : Nat) (snapshot : Snapshot)
      (passed : awardChecks s r = .ok (seq, snapshot)) :
      BookMove s (s.withBook ⟨insertByKey (s.admitted r seq snapshot) s.book.records, nextSequence seq,
        (s.admitted r seq snapshot).id⟩ (s.plan.mapRows (PlanRow.commit (s.admitted r seq snapshot))) s.marked)
  | leave (l : List Commitment) (sub : l.Sublist s.book.records) : BookMove s (s.without l)
  | levels (g : Commitment → LevelRecord → LevelRecord) (move : LevelMove s g) :
      BookMove s (s.setRecords (s.book.records.map fun c => c.mapLevel (g c)))
  | refresh : BookMove s { s with plan := s.plan.mapRows (PlanRow.refresh s.profile s.fleet) }
  | marks (live planning : List Nat) (a : Availability) :
      BookMove s { s.setRecords (s.book.records.map (Commitment.remark live planning)) with
        marked := ((s.book.records.map (Commitment.remark live planning)).filter fun c =>
          c.mark != .clear).map Commitment.id
        avail := a }

/-- What becomes of the Delivery Monitor (R140, R142, R143, R148). -/
inductive DeliveryMove (s : State) : State → Prop
  | opens (number : Nat) (none_ : s.delivery.episode = none) (next : s.delivery.nextNumber = some number) :
      DeliveryMove s { s with delivery := { s.delivery with
        episode := some (Episode.opening number s.clock.slot s.clock.second)
        nextNumber := if maxWord ≤ number then none else some (number + 1) } }
  | account (e : Episode) (opening : Bool) (list : List LevelEntry) (f : Fleet)
      (opened : s.delivery.episode = some e) :
      DeliveryMove s { s with delivery := { s.delivery with
        episode := some ((e.accumulate s.profile opening (formResult list s.thermal f)).1.countQuiet
          (formResult list s.thermal f).required) } }
  | delivered (e : Episode) (sum : Int) (opened : s.delivery.episode = some e) :
      DeliveryMove s { s with delivery := { s.delivery with episode := some { e with delivered := sum } } }
  | closes (e : Episode) (opened : s.delivery.episode = some e) :
      DeliveryMove s { s with
        delivery := { s.delivery with
          episode := none
          log := appendLog s.delivery.log (e.record s.profile s.clock.slot s.clock.second) }
        fleet := Fleet.mapUnits s.fleet UnitRecord.dropBaseline }

/-- One change of the part. A port's own change, a posting and a profile put in force come while it runs. -/
inductive Move : State → State → Prop
  | queue (s : State) (q : List Instr) : Move s { s with pending := q }
  | tick (s : State) (time ms : Nat) (counter : Capture) (phase : ms ≤ 999 ∨ ms = s.clock.ms) : Move s
      { s with time := time, meter := { s.meter with counter := counter }, clock := { s.clock with ms := ms } }
  | port (s : State) (port : Port) (x : PortState) (move : PortMove s port x) (running : s.running = true) :
      Move s (s.setPort port x)
  | post (s : State) (k : Notice) (running : s.running = true) : Move s (s.post k)
  | profile (s : State) (p : Profile) (move : ProfileMove s p) (running : s.running = true) :
      Move s (s.putProfile p)
  | store (s : State) (x : Store) (move : StoreMove s x) : Move s { s with store := x }
  | fleet (s : State) (f : Fleet) (move : FleetMove s f) : Move s { s with fleet := f }
  | book (s t : State) (move : BookMove s t) : Move s t
  | avail (s : State) (a : Availability) : Move s { s with avail := a }
  | levelUnit (s : State) (x : LevelUnit) (hold : x.holdover ≤ 255 ∨ x.holdover = s.levels.holdover)
      (target : (-4096 ≤ x.target ∧ x.target ≤ 4096) ∨ x.target = s.levels.target) :
      Move s { s with levels := x }
  | meter (s : State) (m : Meter) (move : MeterMove s m) : Move s { s with meter := m }
  | analog (s : State) (a : Analog) : Move s { s with analog := a }
  | thermal (s : State) (timer : Timer) :
      Move s { s with thermal := s.thermal.updated s.profile s.analog timer }
  | apportioner (s : State) (timer : Option Timer) (r : DispatchResult) :
      Move s { s with apportioner := ⟨timer, r, advanceIndex s.apportioner.rotation⟩ }
  | link (s : State) (l : Link) (move : LinkMove s l) : Move s { s with link := l }
  | delivery (s t : State) (move : DeliveryMove s t) : Move s t

/-- Changes one after another. -/
abbrev Moves : State → State → Prop := Relation.ReflTransGen Move

/-- The part is reset: it starts over the start-up profile, or is held (R171, R172). -/
inductive Restart (s : State) : State → Prop
  | starts (straps : Straps) :
      Restart s (State.blocksReset { s with powered := true, resetLow := false, straps := straps }
        s.store.cut.startup.1.profile (Fleet.ofEnrolment s.store.cut.startup.1.enrolment))
  | holds (powered resetLow : Bool) (straps : Straps) (still : (powered && !resetLow) = false) :
      Restart s (State.held { s with powered := powered, resetLow := resetLow, straps := straps })

end Sys2Proof.Machine

/-! PROOFS. Every command is made of the changes listed: operation by operation, and then the step. -/

namespace Sys2Proof.Machine

/-! ### Changes one after another -/

section Chains

variable {s t u : State}

theorem Move.running (h : Move s t) : t.running = s.running := by
  cases h with
  | port port x => exact State.setPort_running ..
  | post k => exact State.post_running ..
  | book _ move => cases move <;> rfl
  | delivery _ move => cases move <;> rfl
  | _ => rfl

theorem Moves.running (h : Moves s t) : t.running = s.running := by
  induction h with
  | refl => rfl
  | tail _ move ih => exact move.running.trans ih

theorem Moves.post (h : Moves s t) (run : s.running = true) (k : Notice) : Moves s (t.post k) :=
  h.tail (.post t k (h.running.trans run))

theorem Moves.postIf (h : Moves s t) (run : s.running = true) (c : Bool) (k : Notice) :
    Moves s (t.postIf c k) := by
  cases c
  · exact h
  · exact h.post run k

theorem Moves.port (h : Moves s t) (run : s.running = true) {port : Port} {x : PortState}
    (move : PortMove t port x) : Moves s (t.setPort port x) :=
  h.tail (.port t port x move (h.running.trans run))

theorem Moves.book (h : Moves s t) (move : BookMove t u) : Moves s u := h.tail (.book t u move)

theorem Moves.fleet (h : Moves s t) {f : Fleet} (move : FleetMove t f) : Moves s { t with fleet := f } :=
  h.tail (.fleet t f move)

theorem Moves.link (h : Moves s t) {l : Link} (move : LinkMove t l) : Moves s { t with link := l } :=
  h.tail (.link t l move)

theorem Moves.delivery (h : Moves s t) (move : DeliveryMove t u) : Moves s u := h.tail (.delivery t u move)

/-- A law that every change keeps, a chain of changes keeps. -/
theorem Moves.keeps {P : State → Prop} (keeps : ∀ s t, Move s t → P s → P t) (h : Moves s t) (hs : P s) :
    P t := by
  induction h with
  | refl => exact hs
  | tail _ move ih => exact keeps _ _ move ih

theorem moves_refl : Moves s s := .refl

end Chains

/-! ### A request (R155, R156) -/

theorem moves_send {s : State} (run : s.running = true) (port : Port) {r : Reply}
    (formed : r.isBusy = false) : Moves s (s.send port r) := moves_refl.port run (.reply r formed)

theorem moves_finish {s : State} (run : s.running = true) (port : Port) {r : Reply}
    (formed : r.isBusy = false) : Moves s (s.finish port r) := by
  have left := moves_refl.port run (.service (s := s) (port := port) none)
  have two := left.port run (.reply (port := port) r formed)
  simpa [State.finish] using two

theorem moves_serve {kind : RequestKind} {port : Port} {tag : Byte} {body : List Byte}
    {owner : State → State × Answer} {s : State} (run : s.running = true)
    (owned : ∀ u : State, u.running = true → kind.permitted u.straps.fsrcHigh port = true →
      Moves u (owner u).1) : Moves s (serve kind port tag body owner s) := by
  have heard : Moves s (s.heard port) := moves_refl.port run (.receiver (.hunting false))
  have still : (s.heard port).running = true := heard.running.trans run
  unfold serve
  dsimp only
  split
  · exact heard.port run (.busy kind.code tag)
  · split
    · exact heard.trans (moves_send still port rfl)
    · split
      · exact heard.trans (moves_send still port rfl)
      · rename_i permitted _
        have entered := heard.port run (.service (port := port) (some ⟨kind, tag⟩))
        have work := entered.trans (owned ((s.heard port).enter port kind tag)
          ((Moves.running entered).trans run) (by simpa [State.enter] using permitted))
        have after := (Moves.running work).trans run
        split
        · exact work.trans (moves_finish after port rfl)
        · exact work.trans (moves_finish after port rfl)
        · exact work

theorem moves_whenRunning {f : State → State} {s t : State} (done : whenRunning f s = .next t)
    (effect : s.running = true → Moves s (f s)) : Moves s t := by
  unfold whenRunning at done
  cases done
  split
  · exact effect ‹_›
  · exact moves_refl

theorem moves_request {kind : RequestKind} {port : Port} {tag : Byte} {body : List Byte}
    {owner : State → State × Answer} {s t : State} (done : request kind port tag body owner s = .next t)
    (owned : ∀ u : State, u.running = true → kind.permitted u.straps.fsrcHigh port = true →
      Moves u (owner u).1) : Moves s t :=
  moves_whenRunning done fun run => moves_serve run owned

/-! ### The clock and the book -/

section Book

variable {s : State}

theorem moves_removeAll (run : s.running = true) {l : List Commitment} (sub : l.Sublist s.book.records) :
    Moves s (s.removeAll l) := by
  rw [State.removeAll_eq]
  exact (moves_refl.book (.leave l sub)).postIf run _ _

theorem moves_removeCommitment (run : s.running = true) {c : Commitment} (mem : c ∈ s.book.records) :
    Moves s (s.removeCommitment c) := moves_removeAll run (List.singleton_sublist.mpr mem)

theorem moves_passBoundary (run : s.running = true) : Moves s s.passBoundary := by
  by_cases set : s.clock.set = true
  · by_cases more : s.clock.slot < maxWord
    · rw [State.passBoundary_eq set more, State.boundary_eq, ← State.postIf_setClock]
      exact (moves_refl.book (.boundary set more)).postIf run _ _
    · unfold State.passBoundary
      rw [if_neg (by simp [set]), if_pos (by omega)]
      exact moves_refl.book (.second 899 set (.inl le_rfl))
  · unfold State.passBoundary
    rw [if_pos (by simpa using set)]

theorem State.passBoundary_clock (set : s.clock.set = true) (more : s.clock.slot < maxWord) :
    s.passBoundary.clock = ⟨true, s.clock.slot + 1, 0, 0⟩ := by
  rw [State.passBoundary_eq set more]; rfl

/-- A run of boundaries, each into a slot that exists, ends in the slot that far on. -/
theorem State.passBoundaries_clock (k : Nat) (set : s.clock.set = true)
    (inside : s.clock.slot + k ≤ maxWord) : (State.passBoundary^[k] s).clock.set = true ∧
      (State.passBoundary^[k] s).clock.slot = s.clock.slot + k := by
  induction k generalizing s with
  | zero => exact ⟨set, rfl⟩
  | succ k ih =>
    have next := State.passBoundary_clock set (by omega)
    have := ih (s := s.passBoundary) (by rw [next]) (by rw [next]; simp only; omega)
    rw [Function.iterate_succ_apply, this.2, next]
    exact ⟨this.1, by simp only; omega⟩

theorem moves_passBoundaries (run : s.running = true) (k : Nat) :
    Moves s (State.passBoundary^[k] s) := by
  induction k with
  | zero => exact moves_refl
  | succ k ih =>
    rw [Function.iterate_succ_apply']
    exact ih.trans (moves_passBoundary (ih.running.trans run))

theorem moves_timeSync (run : s.running = true) (body : List Byte) : Moves s (answerTimeSync body s).1 := by
  unfold answerTimeSync
  dsimp only
  split
  · exact moves_refl
  · rename_i inRange
    obtain ⟨seconds, slots⟩ := not_or.mp inRange
    have last : lastSyncSlot ≤ maxWord := by decide
    split
    · rename_i unset
      dsimp only
      exact (moves_refl.book (.first (field body 0 4) (field body 4 2)
        (by simpa using unset) (by omega) (by omega))).post run _
    · split
      · exact moves_refl
      · rename_i set later
        have set : s.clock.set = true := by simpa using set
        obtain ⟨set', slot'⟩ := State.passBoundaries_clock (s := s)
          (field body 0 4 - s.clock.slot) set (by omega)
        dsimp only
        rw [State.boundaries_eq _ _ set (by omega)]
        have second := (moves_passBoundaries run (field body 0 4 - s.clock.slot)).book
          (.second (field body 4 2) set' (.inl (by omega)))
        rwa [slot', Nat.add_sub_cancel' (by omega)] at second

theorem moves_passSecond (s : State) : Moves s s.passSecond := by
  unfold State.passSecond
  split
  · exact moves_refl
  · rename_i set
    have set : s.clock.set = true := by simpa using set
    split
    · exact moves_refl.book (.second _ set (.inl (by omega)))
    · split
      · exact moves_refl.book (.second _ set (.inr rfl))
      · exact moves_refl

theorem moves_takeAward (run : s.running = true) (r : AwardRecord) : Moves s (s.takeAward r).1 := by
  unfold State.takeAward
  split
  · exact moves_refl
  · rename_i seq snapshot passed
    exact (moves_refl.book (.award r seq snapshot passed)).post run .book

theorem moves_award (run : s.running = true) (body : List Byte) : Moves s (answerAward body s).1 := by
  have batch : ∀ (l : List AwardRecord) {s : State}, s.running = true → Moves s (State.takeAwards l s).1 := by
    intro l
    induction l with
    | nil => exact fun _ => moves_refl
    | cons r l ih =>
      intro s run
      have first := moves_takeAward run r
      exact first.trans (ih (first.running.trans run))
  unfold answerAward
  dsimp only
  split
  · exact moves_refl
  · exact batch _ run

theorem Book.find_mem {b : Book} {id : Nat} {c : Commitment} (found : b.find id = some c) :
    c ∈ b.records := List.mem_of_find?_eq_some found

theorem moves_withdraw (run : s.running = true) (body : List Byte) : Moves s (answerWithdraw body s).1 := by
  unfold answerWithdraw
  split
  · exact moves_refl
  · rename_i c found
    split
    · exact moves_removeCommitment run (Book.find_mem found)
    · exact moves_refl

theorem moves_release (run : s.running = true) (body : List Byte) : Moves s (answerRelease body s).1 := by
  unfold answerRelease
  split
  · exact moves_refl
  · rename_i c found
    split
    · exact moves_refl
    · exact moves_removeCommitment run (Book.find_mem found)

theorem moves_bookOpen (run : s.running = true) (port : Port) : Moves s (answerBookOpen port s).1 :=
  moves_refl.port run (.cursors (.opened none) (s.port port).logCursor)

theorem moves_bookNext (run : s.running = true) (port : Port) : Moves s (answerBookNext port s).1 := by
  unfold answerBookNext
  split
  · exact moves_refl
  · split
    · exact moves_refl
    · exact moves_refl.port run (.cursors _ (s.port port).logCursor)

end Book

/-! ### Levels and timers -/

section Levels

variable {s : State}

/-- Records changed in their level records alone. -/
theorem moves_levels {g : Commitment → LevelRecord → LevelRecord} (move : LevelMove s g)
    {l : List Commitment} (same : l = s.book.records.map fun c => c.mapLevel (g c)) :
    Moves s (s.setRecords l) := same ▸ moves_refl.book (.levels g move)

theorem moves_support (run : s.running = true) (id : Nat) : Moves s (State.supportExpiry id s) := by
  unfold State.supportExpiry
  split
  · exact moves_refl
  · rename_i c found
    split
    · exact moves_refl
    · split
      · exact moves_removeCommitment run (Book.find_mem found)
      · refine moves_levels (.support id) (List.map_congr_left fun d _ => ?_)
        split
        · rw [Commitment.endSupport_eq]
        · exact d.mapLevel_id.symm

theorem moves_lockout (id : Nat) : Moves s (s.setRecords
    (changeId id (fun c => c.mapLevel fun l => l.mapPhase endLockout) s.book.records)) := by
  refine moves_levels (.lockout id) (List.map_congr_left fun d _ => ?_)
  split
  · rfl
  · exact d.mapLevel_id.symm

theorem moves_level (body : List Byte) : Moves s (answerLevel body s).1 := by
  refine .single (.levelUnit s _ (.inr rfl) (.inl ?_))
  simp only [clamp]
  split
  · omega
  · split <;> omega

theorem moves_ageLate (run : s.running = true) : Moves s s.ageLate := by
  unfold State.ageLate
  split
  · exact Moves.post (.single (.levelUnit s { s.levels with age := .late } (.inr rfl) (.inr rfl))) run _
  · exact moves_refl

theorem moves_ageExpired (s : State) : Moves s s.ageExpired := by
  unfold State.ageExpired
  split
  · exact .single (.levelUnit s { s.levels with age := .expired, ageTimer := none } (.inr rfl) (.inr rfl))
  · exact moves_refl

theorem moves_cycleComputation (run : s.running = true) : Moves s s.cycleComputation := by
  rw [State.cycleComputation_eq]
  have left : Moves s (s.without (s.book.records.filter Commitment.endsPulse)) :=
    moves_refl.book (.leave _ List.filter_sublist)
  have written := left.trans (moves_levels (s := s.without (s.book.records.filter Commitment.endsPulse))
    (.cycle s.cycleInputs rfl) rfl)
  refine Moves.postIf (written.tail (.levelUnit _ { s.levels with holdover := s.cycleInputs.holdover }
    (.inl ?_) (.inr rfl))) run _ _
  simp only [State.cycleInputs, nextHoldover]
  split <;> omega

end Levels

/-! ### The meter -/

section MeterEvents

variable {s : State}

theorem moves_meterEvent (run : s.running = true) {e : Meter × Option Nat} (move : MeterMove s e.1) :
    Moves s (s.meterEvent e) := by
  obtain ⟨m, f⟩ := e
  have metered : Moves s { s with meter := m } := .single (.meter s m move)
  unfold State.meterEvent
  refine Moves.postIf ?_ run _ _
  cases f with
  | some f =>
    exact metered.trans (moves_levels (.measurement f)
      (List.map_congr_left fun c _ => c.takeMeasurement_eq _ _ f))
  | none =>
    dsimp only [State.meterBook]
    split
    · rw [Book.leftValid_eq]
      exact metered.trans (moves_levels .leftValid rfl)
    · exact metered

theorem moves_edge (run : s.running = true) (capture : Capture) : Moves s (s.edge capture) := by
  cases local_ : s.straps.fsrcHigh
  · rw [State.edge_event local_]
    exact moves_meterEvent run (.edge capture local_)
  · unfold State.edge
    rw [if_pos local_]

theorem moves_freq (run : s.running = true) (relayed : s.straps.fsrcHigh = true) (body : List Byte) :
    Moves s (answerFreq body s).1 := by
  unfold answerFreq
  dsimp only
  rw [State.reading_event]
  exact moves_meterEvent run (.reading _ _ _ relayed rfl)

theorem moves_lossExpiry (run : s.running = true) : Moves s s.lossExpiry := by
  rw [State.lossExpiry_event]; exact moves_meterEvent run .lose

theorem moves_silenceExpiry (run : s.running = true) : Moves s s.silenceExpiry := by
  rw [State.silenceExpiry_event]; exact moves_meterEvent run .fallSilent

end MeterEvents

/-! ### The Fleet Table and its requests -/

section FleetTable

variable {s : State} {a : Nat} {u v : UnitRecord}

theorem moves_unit (found : Fleet.get s.fleet a = some u) (move : UnitMove s a u v) :
    Moves s (s.setUnit a v) := moves_refl.fleet (.unit a u v found move)

theorem addressOf_range {body : List Byte} (address : addressOf body = some a) : 1 ≤ a ∧ a ≤ 240 := by
  unfold addressOf at address
  dsimp only at address
  split at address
  · cases address; assumption
  · cases address

/-- A mode that ENROL or UNIT-MODE takes is one a unit can be enrolled in (R23, R25). -/
theorem enrolMode_sound {code : Nat} {carried : Bool} {d : Sides} {m : EnrolMode}
    (taken : enrolMode code carried d = some m) : m.sound := by
  unfold enrolMode at taken
  split at taken
  · cases taken
  · rename_i inLimit
    split at taken
    · cases taken; trivial
    · cases taken; trivial
    · split at taken
      · rename_i declares
        cases taken
        simp only [declares, Bool.true_and, Bool.or_eq_true, decide_eq_true_eq, not_or] at inLimit
        simp only [declaredLimit] at inLimit
        simp only [EnrolMode.sound, Sides.map, floor10]
        omega
      · cases taken
    · cases taken

theorem moves_enrol (run : s.running = true) (body : List Byte) : Moves s (answerEnrol body s).1 := by
  unfold answerEnrol
  dsimp only
  generalize (if (field body 2 1).testBit 1 = true then field body 11 2 else 4096) = g
  split
  · rename_i a m address mode
    obtain ⟨low, high⟩ := addressOf_range address
    split
    · exact moves_refl
    · split
      · exact moves_refl
      · rename_i inRange vacant
        dsimp only
        exact (moves_refl.fleet (.enrol a m g low high (by simpa using vacant) (enrolMode_sound mode)
          (not_lt.mp inRange))).post run _
  · exact moves_refl

theorem moves_retire (run : s.running = true) (body : List Byte) : Moves s (answerRetire body s).1 := by
  unfold answerRetire
  split
  · exact moves_refl
  · split
    · exact moves_refl
    · rename_i a _ _ _ _
      dsimp only
      exact (((moves_refl.fleet (.retire a)).link (.removed fun b => b == a)).postIf run _ _).post run _

theorem moves_unitMode (run : s.running = true) (body : List Byte) : Moves s (answerUnitMode body s).1 := by
  unfold answerUnitMode
  dsimp only
  split
  · rename_i mode
    split
    · exact moves_refl
    · split
      · exact moves_refl
      · rename_i found idle
        exact (moves_unit found (.mode _ _ (by simpa using idle) (enrolMode_sound mode))).postIf run _ _
  · exact moves_refl

theorem moves_unitTest (body : List Byte) : Moves s (answerUnitTest body s).1 := by
  unfold answerUnitTest
  split
  · exact moves_refl
  · split
    · exact moves_refl
    · split
      · exact moves_refl
      · split
        · exact moves_refl
        · rename_i found alone _ r report
          split
          · exact moves_refl
          · rename_i passes
            simp only [Bool.or_eq_true, Bool.not_eq_true', beq_iff_eq, not_or, Bool.not_eq_false]
              at passes
            exact moves_unit found (.test r (by simpa using alone) report passes.1.1 passes.2 _ _)

theorem moves_testExpiry (run : s.running = true) : Moves s s.testExpiry := by
  unfold State.testExpiry
  split
  · exact moves_refl
  · split
    · exact moves_refl
    · rename_i found
      exact ((moves_unit found (.complete _)).post run _).postIf run _ _

theorem moves_takeFailure (run : s.running = true) (a : Nat) : Moves s (s.takeFailure a) := by
  unfold State.takeFailure
  split
  · exact moves_refl
  · rename_i found
    exact ((moves_unit found (.failure _ _)).postIf run _ _).postIf run _ _

theorem moves_takeReport (run : s.running = true) {frame : List Byte} {carried : CarriedReport}
    (good : judgeFrame a frame = .ok carried) : Moves s (s.takeReport a carried) := by
  unfold State.takeReport
  split
  · exact moves_refl
  · rename_i found
    exact (moves_unit found (.report frame carried good)).postIf run _ _

end FleetTable

end Sys2Proof.Machine

/-! PROOFS. The fleet link, the Delivery Monitor, the dispatch cycle, the profiles and the supply, each made of the
changes listed; and so the step. -/

namespace Sys2Proof.Machine

variable {s t : State}

/-! ### A round's completion (R43, R128, R142) -/

/-- The evaluation reads nothing of the link. -/
theorem State.evaluate_link (s : State) (l : Link) :
    State.evaluate { s with link := l } = { s.evaluate with link := l } := by
  unfold State.evaluate State.markAfresh State.refreshPlan State.postIf
  simp only [State.post_ports]
  by_cases set : s.clock.set = true
  · simp only [State.formAvailability, State.writeHeadroom, set, if_true]
    split <;> rfl
  · simp only [State.formAvailability, State.writeHeadroom, set, Bool.false_eq_true, if_false]
    split <;> rfl

/-- The delivered sum reads nothing of the link. -/
theorem State.updateDelivered_link (s : State) (l : Link) :
    State.updateDelivered { s with link := l } = { s.updateDelivered with link := l } := by
  simp only [State.updateDelivered_eq]

/-- A round's completion: the two takers of its event, and then the next round's first step. -/
theorem State.completeRound_eq (s : State) : s.completeRound
    = { s.evaluate.updateDelivered with
        link := (s.evaluate.updateDelivered.withRound (s.arm (msCounts 200))).startWalk.link } := by
  obtain ⟨l, walk⟩ := (s.evaluate.updateDelivered.withRound (s.arm (msCounts 200))).startWalk_eq
  have linked : s.evaluate.updateDelivered.link = s.link := by
    obtain ⟨_, rfl, frame, -, -⟩ := s.evaluate_eq
    rw [State.updateDelivered_eq, frame]
  have same : s.completeRound
      = (s.evaluate.updateDelivered.withRound (s.arm (msCounts 200))).startWalk := by
    unfold State.completeRound State.withRound
    dsimp only
    rw [State.evaluate_link, State.updateDelivered_link, linked]
  rw [same, walk]
  rfl

theorem moves_evaluate (run : s.running = true) : Moves s s.evaluate := by
  have written : Moves s s.writeHeadroom := moves_refl.fleet .headroom
  have formed : Moves s s.writeHeadroom.formAvailability := written.tail (.avail _ _)
  have refreshed : Moves s s.writeHeadroom.formAvailability.refreshPlan := by
    unfold State.refreshPlan
    split
    · exact formed.book .refresh
    · exact formed
  exact (refreshed.book (.marks _ _ _)).postIf run _ _

theorem moves_updateDelivered (s : State) : Moves s s.updateDelivered := by
  unfold State.updateDelivered
  split
  · exact moves_refl
  · rename_i e opened
    exact moves_refl.delivery (.delivered e _ opened)

theorem moves_completeRound (run : s.running = true) : Moves s s.completeRound := by
  rw [State.completeRound_eq]
  exact Moves.link ((moves_evaluate run).trans (moves_updateDelivered _)) (.round _)

/-! ### The visits (R126 to R135) -/

theorem moves_startWalk (going : s.link.roundTimer.isSome = true ∨ s.nextVisit ≠ none) :
    Moves s s.startWalk := by
  obtain ⟨l, walk⟩ := s.startWalk_eq
  have := (moves_refl (s := s)).link (.walk going)
  rw [walk] at this ⊢
  exact this

theorem State.walk_eq_startWalk (going : s.link.roundTimer.isSome = true ∨ s.nextVisit ≠ none) :
    s.walk = s.startWalk := by
  unfold State.walk State.startWalk
  split
  · rfl
  · rename_i none_
    have timer : s.link.roundTimer.isNone = false := by
      simpa using going.resolve_right (not_not.mpr none_)
    simp [timer]

theorem moves_walk (run : s.running = true) : Moves s s.walk := by
  by_cases going : s.link.roundTimer.isSome = true ∨ s.nextVisit ≠ none
  · rw [State.walk_eq_startWalk going]
    exact moves_startWalk going
  · obtain ⟨timer, none_⟩ := not_or.mp going
    unfold State.walk
    rw [not_not.mp none_]
    dsimp only
    rw [if_pos (by simpa using timer)]
    exact moves_completeRound run

theorem moves_roundExpiry (run : s.running = true) : Moves s s.roundExpiry := by
  unfold State.roundExpiry
  split
  · exact moves_refl
  · dsimp only
    split
    · have same : State.completeRound { s with link := { s.link with roundTimer := none } }
          = s.completeRound := by
        unfold State.completeRound
        rfl
      exact same ▸ moves_completeRound run
    · rename_i walking
      exact moves_refl.link (.expired walking)

theorem moves_quietEnd (run : s.running = true) : Moves s s.quietEnd := by
  unfold State.quietEnd
  split
  · exact moves_walk run
  · exact moves_refl

theorem moves_frameSent (s : State) : Moves s s.frameSent := by
  have move := (moves_refl (s := s)).link .sent
  unfold State.frameSent at move ⊢
  split at move <;> exact move

theorem moves_quietCharacter (s : State) : Moves s s.quietCharacter := by
  have move := (moves_refl (s := s)).link .character
  unfold State.quietCharacter at move ⊢
  split at move <;> exact move

/-- The Fleet Table's taking of an outcome leaves the link (R132). -/
theorem State.takeOutcome_link (s : State) (v : Visit) (outcome : Except FailureCause CarriedReport) :
    (s.takeOutcome v outcome).link = s.link := by
  unfold State.takeOutcome
  split
  · rfl
  · split
    · obtain ⟨_, rfl, frame, -⟩ := s.takeReport_eq v.address ‹_›
      rw [frame]
    · obtain ⟨_, rfl, frame, -⟩ := s.takeFailure_eq v.address
      rw [frame]

theorem moves_endAwaiting (run : s.running = true) (buffer : List Byte)
    {judge : Visit → Except FailureCause CarriedReport}
    (judged : ∀ v carried, judge v = .ok carried → ∃ frame, judgeFrame v.address frame = .ok carried) :
    Moves s (s.endAwaiting buffer judge) := by
  unfold State.endAwaiting
  split
  · rename_i timeout v phase visit
    have taken : Moves s (s.takeOutcome v (judge v)) := by
      unfold State.takeOutcome
      split
      · exact moves_refl
      · split
        · rename_i carried ok
          obtain ⟨frame, good⟩ := judged v carried ok
          exact moves_takeReport run good
        · exact moves_takeFailure run _
    have link := s.takeOutcome_link v (judge v)
    exact taken.link (.quiet timeout v buffer (link ▸ phase) (link ▸ visit))
  · exact moves_refl

theorem moves_frameReceived (run : s.running = true) (frame : List Byte) :
    Moves s (State.frameReceived frame s) := by
  unfold State.frameReceived
  split
  · exact moves_refl
  · split
    · exact moves_endAwaiting run frame fun v carried ok => ⟨frame, ok⟩
    · exact moves_quietCharacter s

theorem moves_lengthInvalid (run : s.running = true) (length : Byte) :
    Moves s (State.lengthInvalid length s) := by
  unfold State.lengthInvalid
  split
  · exact moves_refl
  · exact moves_endAwaiting run [length] fun _ _ ok => nomatch ok

theorem moves_replyExpiry (run : s.running = true) : Moves s s.replyExpiry :=
  moves_endAwaiting run [] fun _ _ ok => nomatch ok

/-! ### The Delivery Monitor and the dispatch cycle (R107, R139) -/

/-- The result handed over is one formed from a list, with the feeder's factor of the moment (R110). -/
theorem moves_account (run : s.running = true) {e : Episode} (opened : s.delivery.episode = some e)
    (opening : Bool) (list : List LevelEntry) (f : Fleet) :
    Moves s (s.account e opening (formResult list s.thermal f)) := by
  unfold State.account
  dsimp only
  have counted := ((moves_refl (s := s)).delivery (.account e opening list f opened)).postIf run
    (e.accumulate s.profile opening (formResult list s.thermal f)).2 .shortfall
  split
  · unfold State.closeEpisode
    exact (counted.delivery (.closes _ (by simp))).post run _
  · exact counted

theorem moves_openEpisode (run : s.running = true) {number : Nat} (none_ : s.delivery.episode = none)
    (next : s.delivery.nextNumber = some number) : Moves s (s.openEpisode number) := by
  have opened := ((moves_refl.delivery (.opens number none_ next)).fleet (.baselines rfl)).post run
    .episodeOpen
  exact (opened.fleet .aborts).postIf run _ _

theorem State.openEpisode_frame (s : State) (number : Nat) :
    (s.openEpisode number).delivery.episode
      = some (Episode.opening number s.clock.slot s.clock.second) ∧
    (s.openEpisode number).thermal = s.thermal := by
  constructor <;> simp [State.openEpisode, State.abortTests]

theorem moves_takeResult (run : s.running = true) (list : List LevelEntry) (f : Fleet) :
    Moves s (s.takeResult (formResult list s.thermal f)) := by
  unfold State.takeResult
  split
  · exact moves_account run ‹_› false list f
  · split
    · exact moves_refl
    · split
      · exact moves_refl
      · rename_i number next
        have opens := moves_openEpisode run ‹_› next
        obtain ⟨opened, thermal⟩ := s.openEpisode_frame number
        have := moves_account (Moves.running opens |>.trans run) opened true list f
        rw [thermal] at this
        exact opens.trans this

theorem moves_dispatchCycle (run : s.running = true) : Moves s s.dispatchCycle := by
  have cycled := moves_cycleComputation run
  have units := cycled.fleet (.dispatch s.cycleComputation.apportioner.rotation
    (formResult s.cycleComputation.book.levelList s.cycleComputation.thermal
      s.cycleComputation.fleet).asked)
  have apportioned : Moves s s.cycleComputation.apportion := units.tail (.apportioner _ _ _)
  exact apportioned.trans (moves_takeResult (Moves.running apportioned |>.trans run) _ _)

/-! ### Profiles and the store -/

theorem moves_paramSet (run : s.running = true) (body : List Byte) : Moves s (answerParamSet body s).1 := by
  unfold answerParamSet
  split
  · exact moves_refl
  · split
    · exact moves_refl
    · rename_i _ i _ _ v applied
      dsimp only
      split
      · exact moves_refl
      · rename_i ordered
        exact .single (.profile s _ (.param i _ v applied (by simpa using ordered)) run)

theorem moves_noticeMask (run : s.running = true) (port : Port) (body : List Byte) :
    Moves s (answerNoticeMask port body s).1 := by
  unfold answerNoticeMask
  dsimp only
  split
  · exact moves_refl
  · rename_i carried
    exact .single (.profile s _ (.mask port _ _ (by simpa using carried)) run)

theorem moves_store {x : Store} (move : StoreMove s x) : Moves s { s with store := x } :=
  .single (.store s x move)

theorem moves_profileSave (s : State) (body : List Byte) : Moves s (answerProfileSave body s).1 := by
  unfold answerProfileSave
  dsimp only
  split
  · exact moves_store .saveOne
  · exact moves_store .saveTwo
  · exact moves_refl

theorem moves_profileStartup (s : State) (body : List Byte) : Moves s (answerProfileStartup body s).1 := by
  unfold answerProfileStartup
  split
  · exact moves_refl
  · exact moves_store (.select _)

theorem moves_finishWrite (run : s.running = true) : Moves s s.finishWrite := by
  unfold State.finishWrite
  split
  · exact moves_refl.post run _
  · exact (moves_finish run .market rfl).post run _

theorem moves_saveComplete (run : s.running = true) : Moves s s.saveComplete := by
  unfold State.saveComplete
  split
  · rename_i second p list writing
    dsimp only
    cases second
    · exact (moves_store (.savedOne p list writing)).trans (moves_finishWrite run)
    · exact (moves_store (.savedTwo p list writing)).trans (moves_finishWrite run)
  · exact moves_refl

theorem moves_startupComplete (run : s.running = true) : Moves s s.startupComplete := by
  unfold State.startupComplete
  split
  · exact (moves_store (.selected _)).trans (moves_finishWrite run)
  · exact moves_refl

theorem moves_profileLoad (run : s.running = true) (body : List Byte) :
    Moves s (answerProfileLoad body s).1 := by
  unfold answerProfileLoad
  split
  · exact moves_refl
  · rename_i slot _
    split
    · exact moves_refl
    · split
      · exact moves_refl
      · have put : Moves s (s.putProfile (s.store.slot slot).profile) :=
          .single (.profile s _ (.stored slot) run)
        have rebuilt := (put.fleet (.rebuild slot)).link (.removed fun _ => true)
        exact ((rebuilt.postIf run _ .test).post run .unit).post run .store

/-! ### The ports' own requests -/

theorem moves_noticeRead (run : s.running = true) (port : Port) : Moves s (answerNoticeRead port s).1 :=
  moves_refl.port run .read

theorem moves_restart (run : s.running = true) (port : Port) (tag : Byte) :
    Moves s (answerRestart port tag s).1 := moves_send run port rfl

theorem moves_logOpen (run : s.running = true) (port : Port) : Moves s (answerLogOpen port s).1 :=
  moves_refl.port run (.cursors (s.port port).bookCursor (.opened none))

theorem moves_logNext (run : s.running = true) (port : Port) : Moves s (answerLogNext port s).1 := by
  unfold answerLogNext
  split
  · exact moves_refl
  · split
    · exact moves_refl
    · exact moves_refl.port run (.cursors (s.port port).bookCursor _)

theorem moves_discard (run : s.running = true) (port : Port) :
    Moves s (s.setPort port (s.port port).discard) := by
  unfold PortState.discard
  split
  · rw [State.setPort_self]
  · exact moves_refl.port run (.receiver _)

theorem moves_unknownKind (run : s.running = true) (port : Port) (kind tag : Byte) :
    Moves s (State.unknownKind port kind tag s) := by
  have heard : Moves s (s.heard port) := moves_refl.port run (.receiver (.hunting false))
  unfold State.unknownKind
  dsimp only
  split
  · exact heard.port run (.busy kind tag)
  · exact heard.trans (moves_send (Moves.running heard |>.trans run) port rfl)

/-! ### A reset (R157, R171, R172) -/

/-- What a command can do: changes alone, or a reset and the changes after it. -/
def Does (s t : State) : Prop := Moves s t ∨ ∃ u, Restart s u ∧ Moves u t

theorem does_startUp {s : State} (straps : Straps) : Does s
    (State.startUp { s with powered := true, resetLow := false, straps := straps }) := by
  refine .inr ⟨_, .starts straps, ?_⟩
  have run : (State.blocksReset { s with powered := true, resetLow := false, straps := straps }
    s.store.cut.startup.1.profile (Fleet.ofEnrolment s.store.cut.startup.1.enrolment)).running = true := rfl
  have posted := ((moves_refl (s := State.blocksReset
    { s with powered := true, resetLow := false, straps := straps } s.store.cut.startup.1.profile
    (Fleet.ofEnrolment s.store.cut.startup.1.enrolment))).post run .clock).postIf run
    s.store.cut.startup.2 .store
  exact posted.trans (moves_startWalk (.inl (by simp [State.blocksReset, Link.initial])))

theorem State.running_iff (s : State) : s.running = true ↔ s.powered = true ∧ s.resetLow = false := by
  simp [State.running]

theorem does_startOrHold (s : State) (powered resetLow : Bool) (straps : Straps) :
    Does s (State.startOrHold { s with powered := powered, resetLow := resetLow, straps := straps }) := by
  unfold State.startOrHold
  split
  · rename_i run
    obtain ⟨on, high⟩ := (State.running_iff _).mp run
    simp only at on high
    subst on high
    exact does_startUp straps
  · rename_i still
    exact .inr ⟨_, .holds powered resetLow straps (by simpa [State.running] using still), moves_refl⟩

theorem does_whenRunning {f : State → State} (done : whenRunning f s = .next t)
    (effect : s.running = true → Does s (f s)) : Does s t := by
  unfold whenRunning at done
  cases done
  split
  · exact effect ‹_›
  · exact .inl moves_refl

/-- A running part that starts again keeps its straps. -/
theorem does_restart (run : s.running = true) : Does s s.startUp := by
  obtain ⟨on, high⟩ := s.running_iff.mp run
  have := does_startUp (s := s) s.straps
  rwa [← on, ← high] at this

/-! ### The step -/

theorem requestOf_does {kind : RequestKind} {port : Port} {tag : Byte} {body : List Byte}
    (done : requestOf kind port tag body s = .next t) : Moves s t := by
  cases kind <;> refine moves_request done fun u run permitted => ?_
  case award => exact moves_award run body
  case withdraw => exact moves_withdraw run body
  case release => exact moves_release run body
  case bookOpen => exact moves_bookOpen run port
  case bookNext => exact moves_bookNext run port
  case timeSync => exact moves_timeSync run body
  case level => exact moves_level body
  case freq =>
    have : (port == .operator) = true ∧ u.straps.fsrcHigh = true := by
      simpa [RequestKind.permitted] using permitted
    exact moves_freq run this.2 body
  case planRead => unfold answerPlanRead; dsimp only; (repeat' split) <;> exact moves_refl
  case availRead => exact moves_refl
  case enrol => exact moves_enrol run body
  case retire => exact moves_retire run body
  case unitMode => exact moves_unitMode run body
  case unitTest => exact moves_unitTest body
  case unitRead => unfold answerUnitRead; (repeat' split) <;> exact moves_refl
  case logOpen => exact moves_logOpen run port
  case logNext => exact moves_logNext run port
  case deliveryRead => unfold answerDeliveryRead; split <;> exact moves_refl
  case paramSet => exact moves_paramSet run body
  case paramRead => unfold answerParamRead; split <;> exact moves_refl
  case paramDescribe => unfold answerParamDescribe; split <;> exact moves_refl
  case profileSave => exact moves_profileSave u body
  case profileLoad => exact moves_profileLoad run body
  case profileStartup => exact moves_profileStartup u body
  case noticeRead => exact moves_noticeRead run port
  case noticeMask => exact moves_noticeMask run port body
  case statusRead => exact moves_refl
  case restart => exact moves_restart run port tag

theorem moves_takeRequest {port : Port} {kind tag : Byte} {body : List Byte}
    (done : takeRequest port kind tag body s = .next t) : Moves s t := by
  unfold takeRequest at done
  split at done
  · exact requestOf_does done
  · exact moves_whenRunning done fun run => moves_unknownKind run port kind tag

theorem moves_byte {port : Port} {byte : Byte} (done : execPortByteReceived port byte s = .next t) :
    Moves s t := by
  unfold execPortByteReceived at done
  split at done
  · cases done; exact moves_refl
  · rename_i run
    have run : s.running = true := by simpa using run
    have received (r : Receiver) : Moves s (s.putReceiver port r) := moves_refl.port run (.receiver r)
    dsimp only at done
    split at done
    · cases done; exact received _
    · split at done
      · cases done; exact received _
      · cases done; exact received _
      · exact moves_takeRequest done

/-- Every command is made of the changes listed, a reset first where it resets the part. -/
theorem exec_does {c : Instr} (done : exec c s = .next t) : Does s t := by
  cases c
  case powerOn => cases done; exact does_startOrHold s _ _ _
  case supplyLoss => cases done; exact does_startOrHold s _ _ _
  case resetPinLow => cases done; exact does_startOrHold s _ _ _
  case resetPinRelease =>
    cases done
    split
    · exact does_startOrHold s _ _ _
    · exact .inl moves_refl
  case restartReplySent =>
    refine does_whenRunning done fun run => ?_
    split
    · exact does_restart run
    · exact .inl moves_refl
  case replyTransmitted port =>
    unfold exec execReplyTransmitted at done
    refine does_whenRunning done fun run => ?_
    split
    · exact does_restart run
    · exact .inl (moves_refl.port run .sent)
  all_goals refine .inl ?_
  case requestDiscarded port =>
    unfold exec execRequestDiscarded at done
    exact moves_whenRunning done fun run => moves_discard run port
  case receiverSilence port =>
    unfold exec execReceiverSilence at done
    exact moves_whenRunning done fun run => moves_discard run port
  case unknownRequest port kind tag _ =>
    exact moves_whenRunning done fun run => moves_unknownKind run port kind tag
  case portByteReceived => exact moves_byte done
  case slotBoundary => exact moves_whenRunning done moves_passBoundary
  case secondInSlotAdvance => exact moves_whenRunning done fun _ => moves_passSecond s
  case attentionPulseTimer port =>
    refine moves_whenRunning done fun run => ?_
    split
    · exact moves_refl.port run (.pulse ‹_›)
    · exact moves_refl
  case lrefEdge capture => exact moves_whenRunning done fun run => moves_edge run capture
  case lossCompareExpiry => exact moves_whenRunning done moves_lossExpiry
  case silenceTimerExpiry => exact moves_whenRunning done moves_silenceExpiry
  case conversionSetStart => exact moves_whenRunning done fun _ => .single (.analog s _)
  case conversionComplete code =>
    refine moves_whenRunning done fun _ => ?_
    unfold State.convert
    split
    · exact moves_refl
    · exact .single (.analog s _)
  case thermalUpdate =>
    refine moves_whenRunning done fun run => ?_
    have updated : Moves s { s with thermal := s.thermal.updated s.profile s.analog (s.arm (secCounts 1)) } :=
      .single (.thermal s _)
    exact updated.postIf run _ _
  case dispatchCycle => exact moves_whenRunning done moves_dispatchCycle
  case supportTimerExpiry id => exact moves_whenRunning done fun run => moves_support run id.toNat
  case lockoutTimerExpiry id =>
    unfold exec execLockoutTimerExpiry at done
    exact moves_whenRunning done fun _ => moves_lockout id.toNat
  case levelAgeLate => exact moves_whenRunning done moves_ageLate
  case levelAgeExpired => exact moves_whenRunning done fun _ => moves_ageExpired s
  case testTimerExpiry => exact moves_whenRunning done moves_testExpiry
  case roundTimerExpiry => exact moves_whenRunning done moves_roundExpiry
  case setpointFrameSent => exact moves_whenRunning done fun _ => moves_frameSent s
  case reportFrameReceived frame => exact moves_whenRunning done fun run => moves_frameReceived run frame
  case reportLengthInvalid length => exact moves_whenRunning done fun run => moves_lengthInvalid run length
  case replyTimeout => exact moves_whenRunning done moves_replyExpiry
  case quietEnd => exact moves_whenRunning done moves_quietEnd
  case quietCharacterReceived => exact moves_whenRunning done fun _ => moves_quietCharacter s
  case saveWriteComplete => exact moves_whenRunning done moves_saveComplete
  case startupWriteComplete => exact moves_whenRunning done moves_startupComplete
  case award => exact requestOf_does (kind := .award) done
  case withdraw => exact requestOf_does (kind := .withdraw) done
  case release => exact requestOf_does (kind := .release) done
  case bookOpen => exact requestOf_does (kind := .bookOpen) done
  case bookNext => exact requestOf_does (kind := .bookNext) done
  case timeSync => exact requestOf_does (kind := .timeSync) done
  case level => exact requestOf_does (kind := .level) done
  case freq => exact requestOf_does (kind := .freq) done
  case planRead => exact requestOf_does (kind := .planRead) done
  case availRead => exact requestOf_does (kind := .availRead) done
  case enrol => exact requestOf_does (kind := .enrol) done
  case retire => exact requestOf_does (kind := .retire) done
  case unitMode => exact requestOf_does (kind := .unitMode) done
  case unitTest => exact requestOf_does (kind := .unitTest) done
  case unitRead => exact requestOf_does (kind := .unitRead) done
  case logOpen => exact requestOf_does (kind := .logOpen) done
  case logNext => exact requestOf_does (kind := .logNext) done
  case deliveryRead => exact requestOf_does (kind := .deliveryRead) done
  case paramSet => exact requestOf_does (kind := .paramSet) done
  case paramRead => exact requestOf_does (kind := .paramRead) done
  case paramDescribe => exact requestOf_does (kind := .paramDescribe) done
  case profileSave => exact requestOf_does (kind := .profileSave) done
  case profileStartup => exact requestOf_does (kind := .profileStartup) done
  case profileLoad => exact requestOf_does (kind := .profileLoad) done
  case noticeRead => exact requestOf_does (kind := .noticeRead) done
  case noticeMask => exact requestOf_does (kind := .noticeMask) done
  case statusRead => exact requestOf_does (kind := .statusRead) done
  case restart => exact requestOf_does (kind := .restart) done

/-- A step over a command is the command over the queue's rest; over an empty queue it is the idle tick. -/
theorem step_cases (done : step s = .next t) :
    (∃ c q, exec c { s with pending := q } = .next t) ∨ t = s.tick := by
  unfold step at done
  split at done
  · cases done; exact .inr rfl
  · exact .inl ⟨_, _, done⟩

theorem moves_tick (s : State) : Moves s s.tick := by
  unfold State.tick
  split
  · refine .single (.tick s _ _ _ ?_)
    split
    · exact .inl (by omega)
    · exact .inr rfl
  · exact moves_refl

/-- A law that every change and every reset keeps, every step keeps. -/
theorem step_keeps {P : State → Prop} (restarts : ∀ s t, Restart s t → P s → P t)
    (moves : ∀ s t, Move s t → P s → P t) (done : step s = .next t) (hs : P s) : P t := by
  obtain ⟨c, q, ran⟩ | rfl := step_cases done
  · have queued := moves _ _ (.queue s q) hs
    obtain ran | ⟨u, restart, ran⟩ := exec_does ran
    · exact ran.keeps moves queued
    · exact ran.keeps moves (restarts _ _ restart queued)
  · exact (moves_tick s).keeps moves hs

end Sys2Proof.Machine

/-! PROOFS. The laws of the blocks, change by change: the meter. -/

namespace Sys2Proof.Machine

/-- The nominal frequency of the straps, mHz (R60). -/
def Straps.nominal (straps : Straps) : Nat := if straps.nomfHigh then 60000 else 50000

theorem State.nominal_eq (s : State) : s.nominal = s.straps.nominal := rfl

/-! ### A measurement of five valid periods (R62, R63) -/

/-- The band of valid periods of a nominal frequency (R62). -/
def bandLow (nomfHigh : Bool) : Nat := if nomfHigh then 153846 else 181818
def bandHigh (nomfHigh : Bool) : Nat := if nomfHigh then 181818 else 222222

theorem validPeriod_iff (high : Bool) (p : Nat) :
    validPeriod high p = true ↔ bandLow high ≤ p ∧ p ≤ bandHigh high := by
  cases high <;> simp [validPeriod, bandLow, bandHigh]

theorem List.sum_bounds {l : List Nat} {lo hi : Nat} (within : ∀ p ∈ l, lo ≤ p ∧ p ≤ hi) :
    lo * l.length ≤ l.sum ∧ l.sum ≤ hi * l.length := by
  induction l with
  | nil => simp
  | cons p l ih =>
    obtain ⟨first, rest⟩ := List.forall_mem_cons.mp within
    have := ih rest
    simp only [List.sum_cons, List.length_cons, Nat.mul_add, Nat.mul_one]
    omega

/-- Five valid periods measure within 5 Hz of nominal (R63, R67). -/
theorem measuredFrequency_near {straps : Straps} {w : List Nat} (full : w.length = 5)
    (valid : ∀ p ∈ w, validPeriod straps.nomfHigh p = true) :
    straps.nominal - 5000 ≤ measuredFrequency w.sum ∧
      measuredFrequency w.sum ≤ straps.nominal + 5000 := by
  obtain ⟨low, top⟩ := List.sum_bounds fun p mem => (validPeriod_iff _ p).mp (valid p mem)
  rw [full] at low top
  unfold measuredFrequency
  have positive : 0 < 2 * w.sum := by unfold bandLow at low; split at low <;> omega
  rw [Nat.le_div_iff_mul_le positive, ← Nat.lt_succ_iff (m := _ / _), Nat.div_lt_iff_lt_mul positive]
  cases high : straps.nomfHigh <;>
    simp only [Straps.nominal, bandLow, bandHigh, high, Bool.false_eq_true, if_true, if_false]
      at low top ⊢ <;> omega

theorem joinWindow_valid {high : Bool} {w : List Nat} {p : Nat}
    (valid : ∀ q ∈ w, validPeriod high q = true) (joins : validPeriod high p = true) :
    ∀ q ∈ joinWindow w p, validPeriod high q = true := by
  intro q mem
  rcases List.mem_append.mp mem with old | new
  · split at old
    · exact valid q (List.mem_of_mem_drop old)
    · exact valid q old
  · rwa [List.mem_singleton.mp new]

theorem joinWindow_length (w : List Nat) (p : Nat) (short : w.length ≤ 5) :
    (joinWindow w p).length = min 5 (w.length + 1) := by
  unfold joinWindow
  split <;> simp only [List.length_append, List.length_drop, List.length_singleton] <;> omega

/-! ### The law of the meter -/

/-- The law of the meter, of the meter and the straps alone. -/
def Meter.lawful (straps : Straps) (m : Meter) : Prop :=
  (m.latest.isSome = true ↔ m.state = .valid) ∧
    (∀ f ∈ m.latest, straps.nominal - 5000 ≤ f ∧ f ≤ straps.nominal + 5000) ∧ m.badRun ≤ 255 ∧
    if straps.fsrcHigh then m.relayedSound else m.localSound straps.nomfHigh

theorem meterSound_iff (s : State) : MeterSound s ↔ s.meter.lawful s.straps := Iff.rfl

section MeterLaw

variable {straps : Straps} {m : Meter}

theorem Meter.lawful_local (local_ : straps.fsrcHigh = false) : m.lawful straps ↔
    (m.latest.isSome = true ↔ m.state = .valid) ∧
      (∀ f ∈ m.latest, straps.nominal - 5000 ≤ f ∧ f ≤ straps.nominal + 5000) ∧ m.badRun ≤ 255 ∧
      m.localSound straps.nomfHigh := by
  simp [Meter.lawful, local_]

theorem Meter.initial_lawful (straps : Straps) : (Meter.initial straps.fsrcHigh).lawful straps := by
  unfold Meter.lawful Meter.initial
  cases straps.fsrcHigh <;> simp [Meter.relayedSound, Meter.localSound]

theorem Meter.disarmed_lawful (h : m.lawful straps) :
    Meter.lawful straps { m with lossCompare := none } := by
  unfold Meter.lawful at h ⊢
  obtain ⟨present, near, run, side⟩ := h
  refine ⟨present, near, run, ?_⟩
  by_cases relayed : straps.fsrcHigh = true
  · rw [if_pos relayed] at side ⊢
    obtain ⟨other, window, previous, -⟩ := side
    exact ⟨other, window, previous, rfl⟩
  · rw [if_neg relayed] at side ⊢
    obtain ⟨silence, window, state⟩ := side
    refine ⟨silence, window, ?_⟩
    cases at_ : m.state <;> simp only [at_] at state ⊢
    · exact state
    · exact state
    · exact state
    · exact ⟨state.1, state.2.1, trivial⟩

theorem Meter.good_lawful (local_ : straps.fsrcHigh = false) {p : Nat}
    (valid : validPeriod straps.nomfHigh p = true) (capture : Capture) (other : m.state ≠ .lost)
    (h : m.lawful straps) :
    Meter.lawful straps { (m.good p).1 with previous := some capture, lossCompare := some capture } := by
  rw [Meter.lawful_local local_] at h ⊢
  obtain ⟨present, near, run, silence, window, state⟩ := h
  have joined := joinWindow_valid window valid
  have short : m.window.length ≤ 5 := by
    cases at_ : m.state <;> rw [at_] at state <;> simp only at state
    · omega
    · omega
    · simp [state]
    · simp [state.1]
  have length := joinWindow_length m.window p short
  unfold Meter.good
  dsimp only
  split
  · rename_i measured
    have full : (joinWindow m.window p).length = 5 := by
      rcases measured with at_ | ⟨-, full⟩
      · rw [at_] at state; simp only at state; omega
      · exact full
    refine ⟨by simp, ?_, by simp, silence, joined, full⟩
    rintro f ⟨⟩
    exact measuredFrequency_near full joined
  · rename_i unmeasured
    split
    · rename_i invalid
      rw [invalid] at state present
      refine ⟨by simpa using present, near, by simp, silence, joined, ?_⟩
      simp only at state ⊢
      rw [length, state]
      simp
    · rename_i other'
      have at_ : m.state = .acquiring := by
        cases at_ : m.state <;> simp_all
      rw [at_] at state
      refine ⟨present, near, by simp, silence, joined, ?_⟩
      simp only [at_] at state unmeasured ⊢
      simp only [reduceCtorEq, true_and, false_or] at unmeasured
      omega

theorem Meter.bad_lawful (local_ : straps.fsrcHigh = false) (capture : Capture) (other : m.state ≠ .lost)
    (h : m.lawful straps) :
    Meter.lawful straps { m.bad with previous := some capture, lossCompare := some capture } := by
  rw [Meter.lawful_local local_] at h ⊢
  obtain ⟨present, near, run, silence, window, state⟩ := h
  unfold Meter.bad Meter.run
  split
  · exact ⟨by simp, by simp, by simp only; omega, silence, by simp, rfl⟩
  · refine ⟨present, near, by simp only; omega, silence, window, ?_⟩
    cases at_ : m.state <;> simp only [at_] at state ⊢
    · exact state
    · exact state
    · exact state
    · exact absurd at_ other

theorem Meter.edge_lawful (local_ : straps.fsrcHigh = false) (capture : Capture) (h : m.lawful straps) :
    (m.edge straps.nomfHigh capture).1.lawful straps := by
  unfold Meter.edge
  dsimp only
  split
  · rename_i first
    rw [Meter.lawful_local local_] at h ⊢
    obtain ⟨present, near, run, silence, window, state⟩ := h
    split
    · rename_i lost
      rw [lost] at present
      exact ⟨by simpa using present, near, by simp, silence, by simp, by simp⟩
    · rename_i other
      refine ⟨present, near, run, silence, window, ?_⟩
      cases at_ : m.state <;> simp only [at_] at state ⊢
      · exact state
      · exact state
      · exact state
      · exact absurd at_ other
  · rename_i previous last
    have other : m.state ≠ .lost := by
      intro lost
      obtain ⟨-, -, -, -, -, state⟩ := (Meter.lawful_local local_).mp h
      rw [lost] at state
      simp [last] at state
    have counted : Meter.lawful straps { m with counter := capture } := h
    split
    · rename_i valid
      exact Meter.good_lawful local_ valid capture other counted
    · exact Meter.bad_lawful local_ capture other counted

theorem Meter.reading_lawful (relayed : straps.fsrcHigh = true) {nominal : Nat}
    (same : nominal = straps.nominal) (f : Nat) (timer : Timer) (h : m.lawful straps) :
    (m.reading nominal f timer).1.lawful straps := by
  subst same
  unfold Meter.lawful at h ⊢
  rw [if_pos relayed] at h ⊢
  obtain ⟨present, near, run, other, rest⟩ := h
  unfold Meter.reading Meter.run
  split
  · rename_i band
    refine ⟨by simp, ?_, by simp, by simp, rest⟩
    rintro _ ⟨⟩
    simpa [inBand] using band
  · split
    · exact ⟨by simp, by simp, by simp only; omega, by simp, rest⟩
    · exact ⟨present, near, by simp only; omega, other, rest⟩

theorem Meter.lose_lawful (h : m.lawful straps) : m.lose.lawful straps := by
  unfold Meter.lose
  split
  · exact h
  · rename_i armed
    unfold Meter.lawful at h ⊢
    obtain ⟨present, near, run, side⟩ := h
    by_cases relayed : straps.fsrcHigh = true
    · rw [if_pos relayed] at side
      exact absurd side.2.2.2 armed
    · rw [if_neg relayed] at side ⊢
      obtain ⟨silence, window, state⟩ := side
      split
      · rename_i lost
        rw [lost] at state
        exact absurd state.2.2 armed
      · exact ⟨by simp, by simp, by simp, silence, by simp, by simp⟩

theorem Meter.fallSilent_lawful (h : m.lawful straps) : m.fallSilent.lawful straps := by
  unfold Meter.fallSilent
  split
  · exact h
  · rename_i armed
    unfold Meter.lawful at h ⊢
    obtain ⟨present, near, run, side⟩ := h
    by_cases relayed : straps.fsrcHigh = true
    · rw [if_pos relayed] at side ⊢
      obtain ⟨other, rest⟩ := side
      split
      · exact ⟨by simp, by simp, by simp, by simp, rest⟩
      · exact ⟨present, near, run, other, rest⟩
    · rw [if_neg relayed] at side
      exact absurd side.1 armed

end MeterLaw

theorem Move.keeps_meter {s t : State} (move : Move s t) (h : s.meter.lawful s.straps) :
    t.meter.lawful t.straps := by
  cases move with
  | port port => cases port <;> exact h
  | post => rw [State.post_ports]; exact h
  | book _ move => cases move <;> exact h
  | delivery _ move => cases move <;> exact h
  | meter m move =>
    cases move with
    | edge capture local_ => exact Meter.edge_lawful local_ capture h
    | reading f timer m relayed read =>
      have lawful := Meter.reading_lawful relayed s.nominal_eq f timer h
      rw [← read] at lawful
      exact lawful
    | lose => exact Meter.lose_lawful h
    | fallSilent => exact Meter.fallSilent_lawful h
  | _ => exact h

theorem Restart.keeps_meter {s t : State} (restart : Restart s t) :
    t.meter.lawful t.straps := by
  cases restart with
  | starts straps => exact Meter.initial_lawful straps
  | holds powered resetLow straps => exact Meter.disarmed_lawful (Meter.initial_lawful straps)

/-- Settles O38: of all changes only an edge, a reading and the two timers touch the meter, and each keeps its
law; five valid periods sum to a measurement within 5 Hz of nominal. -/
theorem everyStepKeepsTheMeter : Obligations.EveryStepKeepsTheMeter := fun _ t h done =>
  (meterSound_iff t).mpr (step_keeps (P := fun s => s.meter.lawful s.straps)
    (fun _ _ restart _ => restart.keeps_meter) (fun _ _ move => move.keeps_meter) done h)

end Sys2Proof.Machine

/-! PROOFS. The law of the profiles and of the thermal model (R97 to R101, R159, R167). -/

namespace Sys2Proof.Machine

/-! ### Sound profiles -/

theorem ParamId.mem_all (i : ParamId) : i ∈ ParamId.all := by cases i <;> decide

section ProfileLaw

variable {p : Profile}

theorem Profile.Sound.fits (h : p.Sound) (i : ParamId) : i.fits (p.get i) := h.1 i i.mem_all

/-- A numeric parameter of a sound profile is within its range. -/
theorem Profile.Sound.within (h : p.Sound) {i : ParamId} {lo hi : Int} (range : i.range = .numeric lo hi) :
    lo ≤ p.get i ∧ p.get i ≤ hi := by
  have fits := h.fits i
  unfold ParamId.fits at fits
  rwa [range] at fits

/-- A value PARAM-SET applies is one the parameter can hold (R159). -/
theorem appliedValue_fits {i : ParamId} {v w : Int} (applied : appliedValue i v = some w) : i.fits w := by
  unfold ParamId.fits
  cases range : i.range with
  | numeric lo hi =>
    have ordered := ParamId.range_ordered range
    rw [appliedValue_of_numeric range, Option.some_inj] at applied
    dsimp only
    omega
  | mode =>
    rw [appliedValue_of_mode range] at applied
    split at applied
    · cases applied; assumption
    · cases applied
  | members mask =>
    rw [appliedValue_of_members range, Option.some_inj] at applied
    subst applied
    simp only [Int.natCast_nonneg, Int.toNat_natCast, true_and]
    rw [Nat.and_assoc, Nat.and_self]

/-- A kind selected is one the port carries, so a masked enable set stays within the port's kinds (R163). -/
theorem maskedEnables_within {enables select value carried : NoticeSet} (enabled : enables &&& carried = enables)
    (selected : select &&& ~~~carried = 0) :
    maskedEnables enables select value &&& carried = maskedEnables enables select value := by
  refine BitVec.eq_of_getElem_eq fun k inSet => ?_
  have enabledBit := congrArg (fun set : NoticeSet => set[k]) enabled
  have selectedBit := congrArg (fun set : NoticeSet => set[k]) selected
  simp only [maskedEnables, BitVec.getElem_and, BitVec.getElem_or, BitVec.getElem_not]
    at enabledBit selectedBit ⊢
  cases within : carried[k] <;> simp_all

theorem enableParam_range (port : Port) :
    (enableParam port).range = .members (carriedNotices port).toNat := by cases port <;> rfl

/-- An enable set of a sound profile names kinds the port carries. -/
theorem Profile.Sound.enables_carried (h : p.Sound) (port : Port) :
    p.enables port &&& carriedNotices port = p.enables port := by
  have fits := h.fits (enableParam port)
  simp only [ParamId.fits, enableParam_range] at fits
  obtain ⟨n, same⟩ := Int.eq_ofNat_of_zero_le fits.1
  rw [same, Int.toNat_natCast] at fits
  refine BitVec.eq_of_toNat_eq ?_
  have small : n ≤ (carriedNotices port).toNat := fits.2 ▸ Nat.and_le_right
  rw [BitVec.toNat_and, Profile.enables, same, BitVec.ofInt_natCast, BitVec.toNat_ofNat,
    Nat.mod_eq_of_lt (lt_of_le_of_lt small (BitVec.isLt _)), fits.2]

/-- One parameter written with a value it can hold; the orderings stand where none of their parameters is
written against them (R159). -/
theorem Profile.Sound.put (h : p.Sound) {i : ParamId} {w : Int} (fits : i.fits w)
    (ordered : breaksOrder (p.put i w) i = false) : (p.put i w).Sound := by
  have free := mt (breaksOrder_iff (p.put i w) i).mpr (by simp [ordered])
  simp only [List.mem_cons, List.not_mem_nil, or_false, not_or, not_and_or, not_le] at free
  obtain ⟨thresholds, deviations⟩ := free
  obtain ⟨-, lower, upper, band⟩ := id h
  refine ⟨fun j _ => ?_, ?_, ?_, ?_⟩
  · by_cases same : j = i
    · subst same; rwa [Profile.get_put_self]
    · rw [Profile.get_put_ne _ _ same]; exact h.fits j
  · rcases thresholds with other | kept
    · rwa [Profile.get_put_ne _ _ (Ne.symm other.1), Profile.get_put_ne _ _ (Ne.symm other.2.1)]
    · exact kept.1
  · rcases thresholds with other | kept
    · rwa [Profile.get_put_ne _ _ (Ne.symm other.2.1), Profile.get_put_ne _ _ (Ne.symm other.2.2)]
    · exact kept.2
  · rcases deviations with other | kept
    · rwa [Profile.get_put_ne _ _ (Ne.symm other.1), Profile.get_put_ne _ _ (Ne.symm other.2)]
    · exact kept

end ProfileLaw

/-- The defaults of Table 11-2 are in their ranges and in the orders of R159. -/
theorem Profile.factory_sound : Profile.factory.Sound := by
  refine ⟨fun i _ => ?_, by decide, by decide, by decide⟩
  unfold ParamId.fits
  cases i <;> simp only [ParamId.range] <;> decide

theorem breaksOrder_enableParam (p : Profile) (port : Port) : breaksOrder p (enableParam port) = false := by
  cases port <;> rfl

section ProfilesLaw

variable {s t : State}

theorem ProfilesSound.slot (h : ProfilesSound s) (slot : ProfileSlot) : (s.store.slot slot).profile.Sound := by
  obtain ⟨-, one, two, -⟩ := h
  cases slot
  · exact Profile.factory_sound
  · exact one
  · exact two

theorem ProfileMove.sound {p : Profile} (move : ProfileMove s p) (h : ProfilesSound s) : p.Sound := by
  cases move with
  | param i v w applied ordered => exact h.1.put (appliedValue_fits applied) ordered
  | mask port select value carried =>
    refine h.1.put ?_ (breaksOrder_enableParam _ port)
    have within := maskedEnables_within (value := value) (h.1.enables_carried port) carried
    simp only [ParamId.fits, enableParam_range, Int.toNat_natCast]
    exact ⟨Int.natCast_nonneg _, by rw [← BitVec.toNat_and, within]⟩
  | stored slot => exact h.slot slot

theorem StoreMove.profilesSound {x : Store} (move : StoreMove s x) (h : ProfilesSound s) :
    ProfilesSound { s with store := x } := by
  obtain ⟨working, one, two, writing⟩ := h
  cases move with
  | saveOne | saveTwo => exact ⟨working, one, two, by rintro _ _ _ ⟨⟩; exact working⟩
  | select => exact ⟨working, one, two, by rintro _ _ _ ⟨⟩⟩
  | savedOne p list write => exact ⟨working, writing _ _ _ write, two, by rintro _ _ _ ⟨⟩⟩
  | savedTwo p list write => exact ⟨working, one, writing _ _ _ write, by rintro _ _ _ ⟨⟩⟩
  | selected => exact ⟨working, one, two, by rintro _ _ _ ⟨⟩⟩

/-- The profile a start loads is one of the stored ones (R171). -/
theorem Store.startup_slot (x : Store) : ∃ slot, x.startup.1 = x.slot slot := by
  unfold Store.startup
  split
  · exact ⟨.factory, rfl⟩
  · split
    · exact ⟨x.selector.slot, rfl⟩
    · exact ⟨.factory, rfl⟩

theorem Store.cut_slot (x : Store) (slot : ProfileSlot) : x.cut.slot slot = x.slot slot := by
  cases slot <;> rfl

theorem Move.keeps_profiles (move : Move s t) (h : ProfilesSound s) : ProfilesSound t := by
  cases move with
  | port port => cases port <;> exact h
  | post => rw [State.post_ports]; exact h
  | book _ move => cases move <;> exact h
  | delivery _ move => cases move <;> exact h
  | profile p move => exact ⟨move.sound h, h.2⟩
  | store x move => exact move.profilesSound h
  | _ => exact h

theorem Restart.keeps_profiles (restart : Restart s t) (h : ProfilesSound s) : ProfilesSound t := by
  have stored (p : Profile) (sound : p.Sound) : p.Sound ∧ s.store.cut.slot1.profile.Sound ∧
      s.store.cut.slot2.profile.Sound ∧ ∀ second p list, s.store.cut.write = some (.image second p list) →
        p.Sound := ⟨sound, h.2.1, h.2.2.1, by rintro _ _ _ ⟨⟩⟩
  cases restart with
  | starts straps =>
    obtain ⟨slot, chosen⟩ := s.store.cut.startup_slot
    refine stored _ ?_
    rw [chosen, Store.cut_slot]
    exact h.slot slot
  | holds => exact stored _ h.1

end ProfilesLaw

/-! ### The thermal model -/

/-- The law of the thermal model beside that of the profiles. -/
def Thermal.lawful (t : Thermal) : Prop :=
  t.lo < t.hi ∧ t.hi < t.crit ∧ -40000 ≤ t.theta ∧ t.theta ≤ 200000 ∧
    (t.zone = .critical → t.hi ≤ t.theta) ∧ t.factor ≤ 4096

theorem thermalSound_iff (s : State) : ThermalSound s ↔ ProfilesSound s ∧ s.thermal.lawful := Iff.rfl

theorem clamp_mem_Icc {x a b : Int} (ordered : a ≤ b) : a ≤ clamp x a b ∧ clamp x a b ≤ b := by
  rw [clamp_eq_max_min ordered]; omega

/-- CRITICAL is entered or kept only while θ ≥ θ_hi (Table 6-2). -/
theorem nextZone_critical {lo hi crit theta : Int} {zone : Zone} (ordered : hi < crit)
    (critical : nextZone lo hi crit theta zone = .critical) : hi ≤ theta := by
  cases zone <;> simp only [nextZone] at critical
  · split at critical
    · omega
    · split at critical <;> cases critical
  · split at critical
    · omega
    · split at critical <;> cases critical
  · split at critical
    · assumption
    · cases critical

section ThermalLaw

variable {p : Profile} (h : p.Sound)
include h

theorem Profile.Sound.throttle_le : p.nat .throttle ≤ 4096 := by
  have := (h.within (i := .throttle) rfl).2
  unfold Profile.nat; omega

theorem Profile.Sound.ambient_mem : -40000 ≤ p.get .ambient ∧ p.get .ambient ≤ 200000 := by
  have := h.within (i := .ambient) rfl
  omega

theorem Thermal.initial_lawful : (Thermal.initial p).lawful :=
  ⟨h.2.1, h.2.2.1, h.ambient_mem.1, h.ambient_mem.2, by simp [Thermal.initial], h.throttle_le⟩

theorem Thermal.updated_lawful (t : Thermal) (a : Analog) (timer : Timer) :
    (t.updated p a timer).lawful := by
  obtain ⟨-, lower, upper, -⟩ := id h
  have ambient := h.ambient_mem
  unfold Thermal.updated Thermal.lawful
  dsimp only
  split
  · exact ⟨lower, upper, ambient.1, ambient.2, by simp, h.throttle_le⟩
  · have range := clamp_mem_Icc (x := t.theta + (p.get .ambient + steadyRise p (loadingRatio p a.phases)
      - t.theta).tdiv (p.get .timeConstant)) (a := -40000) (b := 200000) (by omega)
    exact ⟨lower, upper, range.1, range.2, nextZone_critical upper, h.throttle_le⟩

end ThermalLaw

theorem Move.keeps_thermal {s t : State} (move : Move s t) (h : ThermalSound s) : ThermalSound t := by
  refine (thermalSound_iff t).mpr ⟨move.keeps_profiles h.1, ?_⟩
  obtain ⟨profiles, lawful⟩ := (thermalSound_iff s).mp h
  cases move with
  | port port => cases port <;> exact lawful
  | post => rw [State.post_ports]; exact lawful
  | book _ move => cases move <;> exact lawful
  | delivery _ move => cases move <;> exact lawful
  | thermal timer => exact Thermal.updated_lawful profiles.1 _ _ _
  | _ => exact lawful

theorem Restart.keeps_thermal {s t : State} (restart : Restart s t) (h : ThermalSound s) :
    ThermalSound t := by
  have profiles := restart.keeps_profiles h.1
  refine (thermalSound_iff t).mpr ⟨profiles, ?_⟩
  have initial := Thermal.initial_lawful profiles.1
  cases restart <;> exact initial

/-- Settles O41: only the update touches the model; CRITICAL is entered from θ_crit, which lies above θ_hi, and
a sound profile, which every change of the profile keeps, orders the thresholds loaded. -/
theorem everyStepKeepsTheThermalModel : Obligations.EveryStepKeepsTheThermalModel := fun _ _ h done =>
  step_keeps (fun _ _ restart => restart.keeps_thermal) (fun _ _ move => move.keeps_thermal) done h

end Sys2Proof.Machine

/-! PROOFS. The law of the delivery account (R140, R143 to R149). -/

namespace Sys2Proof.Machine

/-! ### Credited ≤ permitted ≤ required (R143) -/

theorem satAdd_mono {limit a b c d : Nat} (first : a ≤ b) (second : c ≤ d) :
    satAdd limit a c ≤ satAdd limit b d := by unfold satAdd; omega

theorem satAdd_le (limit a b : Nat) : satAdd limit a b ≤ limit := by unfold satAdd; omega

theorem credit_le (permitted delivered : Int) : credit permitted delivered ≤ permitted.natAbs :=
  Nat.min_le_left ..

theorem Accumulators.cycle_ordered {a : Accumulators} (h : a.ordered) {required permitted c : Nat}
    (feeder : permitted ≤ required) (credited : c ≤ permitted) :
    (a.cycle required permitted c).ordered :=
  ⟨satAdd_mono h.1 credited, satAdd_mono h.2 feeder⟩

theorem wattHours_mono {a b : Nat} (h : a ≤ b) : wattHours a ≤ wattHours b := Nat.div_le_div_right h

theorem Accumulators.inWattHours_ordered {a : Accumulators} (h : a.ordered) : a.inWattHours.ordered :=
  ⟨wattHours_mono h.1, wattHours_mono h.2⟩

/-! ### At most eight contributors (R144) -/

theorem contribute_length {x : List Contributor × Bool} (few : x.1.length ≤ 8) (c : Call) :
    (contribute x c).1.length ≤ 8 := by
  unfold contribute
  split
  · simpa using few
  · split
    · simp only [List.length_append, List.length_singleton]; omega
    · exact few

theorem contribute_all_length {x : List Contributor × Bool} (few : x.1.length ≤ 8) (calls : List Call) :
    (calls.foldl contribute x).1.length ≤ 8 := by
  induction calls generalizing x with
  | nil => exact few
  | cons c calls ih => exact ih (contribute_length few c)

/-! ### One episode -/

/-- What the law says of an open episode by itself. -/
def Episode.lawful (e : Episode) : Prop :=
  e.energies.ordered ∧ e.contributors.length ≤ 8 ∧ e.grace ≤ 10 ∧ e.shortRun ≤ 255

theorem Episode.opening_lawful (number slot second : Nat) : (Episode.opening number slot second).lawful := by
  simp [Episode.lawful, Episode.opening, Accumulators.ordered]

section EpisodeLaw

variable {e : Episode}

/-- Grace and the short run alone move as a cycle is judged (R145, R146). -/
theorem Episode.judge_eq (e : Episode) (p : Profile) (opening : Bool) (permitted c : Nat) :
    ∃ (grace shortRun shortCycles : Nat) (reported : Bool), (grace ≤ 10 ∨ grace ≤ e.grace) ∧
      (shortRun ≤ 255 ∨ shortRun = e.shortRun) ∧ (e.judge p opening permitted c).1 =
        { e with grace := grace, shortRun := shortRun, shortCycles := shortCycles, reported := reported } := by
  unfold Episode.judge
  split
  · exact ⟨10, 0, _, _, .inl le_rfl, .inl (by omega), rfl⟩
  · split
    · exact ⟨e.grace - 1, _, _, _, .inr (by omega), .inr rfl, rfl⟩
    · split
      · exact ⟨_, _, _, _, .inr le_rfl, .inl (satAdd_le _ _ _), rfl⟩
      · exact ⟨_, 0, _, _, .inr le_rfl, .inl (by omega), rfl⟩

theorem Episode.accumulate_lawful (h : e.lawful) {t : Thermal} (small : t.factor ≤ 4096) (p : Profile)
    (opening : Bool) (list : List LevelEntry) (f : Fleet) :
    (e.accumulate p opening (formResult list t f)).1.lawful := by
  obtain ⟨energies, contributors, grace, shortRun⟩ := h
  unfold Episode.accumulate Episode.lawful
  dsimp only
  obtain ⟨g, run, _, _, less, within, judged⟩ := Episode.judge_eq _ p opening _ _
  rw [judged]
  refine ⟨Accumulators.cycle_ordered energies ?_ (credit_le _ _), contribute_all_length contributors _,
    less.elim id grace.trans', within.elim id (·.trans_le shortRun)⟩
  exact natAbs_le_of_mem_uIcc (Thermal.permit_mem_uIcc small)

theorem Episode.accumulate_number (e : Episode) (p : Profile) (opening : Bool) (r : DispatchResult) :
    (e.accumulate p opening r).1.number = e.number := by
  unfold Episode.accumulate
  dsimp only
  obtain ⟨_, _, _, _, -, -, judged⟩ := Episode.judge_eq _ p opening _ _
  rw [judged]

end EpisodeLaw

/-! ### The log (R149) -/

theorem appendLog_length (log : List EpisodeRecord) (r : EpisodeRecord) (few : log.length ≤ 32) :
    (appendLog log r).length ≤ 32 := by
  unfold appendLog
  split <;> simp only [List.length_append, List.length_drop, List.length_singleton] <;> omega

/-- The log with a record appended holds that record, after the records it held that stay. -/
theorem appendLog_kept (log : List EpisodeRecord) (r : EpisodeRecord) :
    ∃ kept, kept.Sublist log ∧ appendLog log r = kept ++ [r] := by
  unfold appendLog
  split
  · exact ⟨_, List.drop_sublist _ _, rfl⟩
  · exact ⟨_, List.Sublist.refl _, rfl⟩

/-! ### The law -/

/-- The law of the delivery account beside that of the thermal model. -/
def Delivery.lawful (d : Delivery) : Prop :=
  (∀ e ∈ d.episode, e.energies.ordered ∧ e.contributors.length ≤ 8 ∧ e.grace ≤ 10 ∧
    e.shortRun ≤ 255 ∧ (∀ r ∈ d.log, r.number < e.number) ∧ ∀ n ∈ d.nextNumber, e.number < n) ∧
  (∀ n ∈ d.nextNumber, 1 ≤ n ∧ n ≤ maxWord ∧ ∀ r ∈ d.log, r.number < n) ∧
  d.log.length ≤ 32 ∧ (d.log.map EpisodeRecord.number).Pairwise (· < ·) ∧
  ∀ r ∈ d.log, r.energies.ordered ∧ r.contributors.length ≤ 8

theorem deliverySound_iff (s : State) : DeliverySound s ↔ ThermalSound s ∧ s.delivery.lawful := Iff.rfl

section DeliveryLaw

variable {d : Delivery} {e : Episode}

theorem Delivery.initial_lawful : Delivery.initial.lawful := by
  simp [Delivery.lawful, Delivery.initial, maxWord]

theorem Delivery.lawful.episode_lawful (h : d.lawful) (opened : d.episode = some e) : e.lawful := by
  obtain ⟨energies, contributors, grace, shortRun, -⟩ := h.1 e opened
  exact ⟨energies, contributors, grace, shortRun⟩

/-- Another lawful episode of the same number in place of the open one. -/
theorem Delivery.lawful.replace (h : d.lawful) (opened : d.episode = some e) {x : Episode}
    (same : x.number = e.number) (lawful : x.lawful) : Delivery.lawful { d with episode := some x } := by
  obtain ⟨episode, rest⟩ := h
  obtain ⟨-, -, -, -, log, next⟩ := episode e opened
  refine ⟨?_, rest⟩
  rintro _ ⟨⟩
  rw [same]
  exact ⟨lawful.1, lawful.2.1, lawful.2.2.1, lawful.2.2.2, log, next⟩

theorem Delivery.lawful.opens (h : d.lawful) {number : Nat} (next : d.nextNumber = some number)
    (slot second : Nat) : Delivery.lawful { d with
      episode := some (Episode.opening number slot second)
      nextNumber := if maxWord ≤ number then none else some (number + 1) } := by
  obtain ⟨-, numbers, log⟩ := h
  obtain ⟨positive, -, above⟩ := numbers number next
  obtain ⟨energies, contributors, grace, shortRun⟩ := Episode.opening_lawful number slot second
  refine ⟨?_, ?_, log⟩
  · rintro _ ⟨⟩
    refine ⟨energies, contributors, grace, shortRun, above, fun n later => ?_⟩
    split at later <;> cases later
    exact Nat.lt_succ_self number
  · intro n later
    dsimp only at later
    split at later <;> cases later
    exact ⟨by omega, by omega, fun r mem => Nat.lt_succ_of_lt (above r mem)⟩

theorem Delivery.lawful.closes (h : d.lawful) (opened : d.episode = some e) (p : Profile)
    (slot second : Nat) : Delivery.lawful { d with
      episode := none, log := appendLog d.log (e.record p slot second) } := by
  obtain ⟨episode, numbers, length, rising, records⟩ := h
  obtain ⟨energies, contributors, -, -, last, next⟩ := episode e opened
  obtain ⟨kept, sub, appended⟩ := appendLog_kept d.log (e.record p slot second)
  have logged : ∀ r ∈ appendLog d.log (e.record p slot second), r ∈ d.log ∨ r = e.record p slot second := by
    rw [appended]
    intro r mem
    rcases List.mem_append.mp mem with old | new
    · exact .inl (sub.subset old)
    · exact .inr (List.mem_singleton.mp new)
  refine ⟨(by rintro _ ⟨⟩), fun n later => ?_, appendLog_length _ _ length, ?_, fun r mem => ?_⟩
  · obtain ⟨low, high, above⟩ := numbers n later
    refine ⟨low, high, fun r mem => ?_⟩
    rcases logged r mem with old | rfl
    · exact above r old
    · exact next n later
  · dsimp only
    rw [appended, List.map_append, List.pairwise_append]
    refine ⟨rising.sublist (sub.map _), List.pairwise_singleton _ _, fun a mem b new => ?_⟩
    obtain ⟨r, old, rfl⟩ := List.mem_map.mp mem
    rw [List.map_singleton, List.mem_singleton] at new
    exact new ▸ last r (sub.subset old)
  · rcases logged r mem with old | rfl
    · exact records r old
    · exact ⟨Accumulators.inWattHours_ordered energies, by simpa [Episode.record] using contributors⟩

end DeliveryLaw

theorem DeliveryMove.keeps_delivery {s t : State} (move : DeliveryMove s t) (small : s.thermal.factor ≤ 4096)
    (h : s.delivery.lawful) : t.delivery.lawful := by
  cases move with
  | opens number none_ next => exact h.opens next _ _
  | account e opening list f opened =>
    exact h.replace opened (Episode.accumulate_number ..)
      (Episode.accumulate_lawful (h.episode_lawful opened) small ..)
  | delivered e sum opened =>
    have lawful : e.lawful := h.episode_lawful opened
    exact h.replace opened rfl lawful
  | closes e opened => exact h.closes opened _ _ _

theorem Move.keeps_delivery {s t : State} (move : Move s t) (h : DeliverySound s) : DeliverySound t := by
  refine (deliverySound_iff t).mpr ⟨move.keeps_thermal h.1, ?_⟩
  obtain ⟨thermal, lawful⟩ := (deliverySound_iff s).mp h
  obtain ⟨-, -, -, -, -, -, small⟩ := (thermalSound_iff s).mp thermal
  cases move with
  | port port => cases port <;> exact lawful
  | post => rw [State.post_ports]; exact lawful
  | book _ move => cases move <;> exact lawful
  | delivery _ move => exact move.keeps_delivery small lawful
  | _ => exact lawful

theorem Restart.keeps_delivery {s t : State} (restart : Restart s t) (h : DeliverySound s) :
    DeliverySound t := by
  refine (deliverySound_iff t).mpr ⟨restart.keeps_thermal h.1, ?_⟩
  cases restart <;> exact Delivery.initial_lawful

/-- Settles O55: a cycle adds to each account what the feeder and the credit leave of it; a record that closes
is numbered above the log it joins. -/
theorem everyStepKeepsTheDeliveryAccount : Obligations.EveryStepKeepsTheDeliveryAccount := fun _ _ h done =>
  step_keeps (fun _ _ restart => restart.keeps_delivery) (fun _ _ move => move.keeps_delivery) done h

end Sys2Proof.Machine

/-! PROOFS. The law of the ports (R155, R156, R161 to R165). -/

namespace Sys2Proof.Machine

/-! ### The replies of a port (R155, R156) -/

/-- At most four BUSY replies wait, and none waits while nothing is sent. -/
def PortState.repliesLawful (x : PortState) : Prop :=
  (x.waiting.filter Reply.isBusy).length ≤ 4 ∧ (x.sending = none → x.waiting = [])

section Replies

variable {x : PortState}

theorem PortState.transmit_lawful (h : x.repliesLawful) {r : Reply}
    (room : r.isBusy = false ∨ (x.waiting.filter Reply.isBusy).length < 4) :
    (x.transmit r).repliesLawful := by
  unfold PortState.transmit
  split
  · rename_i idle
    exact ⟨h.1, fun busy => nomatch busy⟩
  · rename_i reply sending
    refine ⟨?_, fun idle => ?_⟩
    · rw [List.filter_append, List.length_append]
      rcases room with formed | few
      · simpa [formed] using h.1
      · have one : ([r].filter Reply.isBusy).length ≤ 1 := List.length_filter_le _ _
        omega
    · rw [sending] at idle; cases idle

theorem PortState.answerBusy_lawful (h : x.repliesLawful) (kind tag : Byte) :
    (x.answerBusy kind tag).repliesLawful := by
  unfold PortState.answerBusy
  split
  · exact h
  · rename_i room
    refine PortState.transmit_lawful h (.inr ?_)
    cases idle : x.sending with
    | none => simp [h.2 idle]
    | some r => simpa [idle] using room

theorem PortState.transmitted_lawful (h : x.repliesLawful) : x.transmitted.repliesLawful := by
  unfold PortState.transmitted
  split
  · rename_i none_
    exact ⟨h.1, fun _ => none_⟩
  · rename_i r rest waiting
    refine ⟨?_, fun idle => nomatch idle⟩
    refine le_trans (List.Sublist.length_le ?_) h.1
    rw [waiting]
    exact (List.sublist_cons_self r rest).filter _

end Replies

/-! ### The attention line of a port (R161, R164, R165) -/

/-- The pending set, the line and the pulses, under an enable set and a mode. -/
def PortState.lineLawful (x : PortState) (carried enables : NoticeSet) (pulse : Bool) : Prop :=
  x.notices &&& ~~~carried = 0 ∧
  (pulse = false → x.line = (x.notices &&& enables != 0) ∧ x.gap = false ∧ x.owed = 0) ∧
  (pulse = true → x.owed ≤ 15 ∧ (x.line && x.gap) = false ∧ (0 < x.owed → (x.line || x.gap) = true))

theorem PortState.sound_iff (x : PortState) (carried enables : NoticeSet) (pulse : Bool) :
    x.sound carried enables pulse ↔ x.lineLawful carried enables pulse ∧ x.repliesLawful := by
  simp only [PortState.sound, PortState.lineLawful, PortState.repliesLawful, and_assoc]

section Line

variable {x : PortState} {carried enables : NoticeSet} {pulse : Bool}

theorem PortState.initial_lawful : PortState.initial.lineLawful carried enables pulse := by
  simp [PortState.lineLawful, PortState.initial]

/-- A port at rest owes at most one pulse fewer than it may. -/
theorem PortState.owePulse_lawful (h : x.lineLawful carried enables true) :
    x.owePulse.lineLawful carried enables true := by
  obtain ⟨within, -, pulses⟩ := h
  obtain ⟨few, apart, given⟩ := pulses rfl
  unfold PortState.owePulse
  split
  · rename_i busy
    exact ⟨within, nofun, fun _ => ⟨Nat.min_le_left _ _, apart, fun _ => busy⟩⟩
  · rename_i rest
    simp only [Bool.not_eq_true, Bool.or_eq_false_iff] at rest
    exact ⟨within, nofun, fun _ => ⟨few, by simp [rest.2], fun _ => rfl⟩⟩

theorem PortState.post_lawful (h : x.lineLawful carried enables pulse) {k : Notice}
    (carries : hasNotice carried k = true) : (x.post pulse enables k).lineLawful carried enables pulse := by
  have within : (x.notices ||| k.mask) &&& ~~~carried = 0 := by
    refine BitVec.eq_of_getElem_eq fun j inSet => ?_
    have before := congrArg (fun set : NoticeSet => set[j]) h.1
    have kind : k.mask[j] = true → carried[j] = true := by
      intro this
      have same : j = k.bit := by
        simpa [Notice.mask, eq_comm] using this
      subst same
      rw [← BitVec.getLsbD_eq_getElem]
      exact carries
    simp only [BitVec.getElem_and, BitVec.getElem_or, BitVec.getElem_not]
      at before ⊢
    cases in_ : carried[j] <;> simp_all
  unfold PortState.post
  split
  · exact h
  · dsimp only
    cases pulse with
    | false => exact ⟨within, fun _ => ⟨rfl, (h.2.1 rfl).2⟩, nofun⟩
    | true =>
      have joined : { x with notices := x.notices ||| k.mask }.lineLawful carried enables true :=
        ⟨within, nofun, h.2.2⟩
      rw [if_pos rfl]
      split
      · exact PortState.owePulse_lawful joined
      · exact joined

theorem PortState.rejudge_lawful {old : Bool} {before : NoticeSet} (h : x.lineLawful carried before old) :
    (x.rejudge old pulse enables).lineLawful carried enables pulse := by
  cases pulse with
  | false => exact ⟨h.1, fun _ => ⟨rfl, rfl, rfl⟩, nofun⟩
  | true =>
    cases old with
    | false => exact ⟨h.1, nofun, fun _ => ⟨by simp [PortState.rejudge], rfl, by simp [PortState.rejudge]⟩⟩
    | true => exact ⟨h.1, nofun, h.2.2⟩

theorem PortState.pulseTimer_lawful (h : x.lineLawful carried enables true) :
    x.pulseTimer.lineLawful carried enables true := by
  obtain ⟨within, -, pulses⟩ := h
  obtain ⟨few, apart, given⟩ := pulses rfl
  refine ⟨by obtain ⟨_, rfl, same⟩ := x.pulseTimer_eq; rwa [same], nofun, fun _ => ?_⟩
  unfold PortState.pulseTimer
  split
  · exact ⟨few, rfl, fun _ => rfl⟩
  · split
    · split
      · rename_i none_
        exact ⟨few, by simp_all, by simp [none_]⟩
      · exact ⟨by dsimp only; omega, rfl, fun _ => rfl⟩
    · exact ⟨few, apart, given⟩

theorem PortState.judgeAfterRead_lawful (h : x.lineLawful carried enables pulse) :
    ({ x with notices := 0 }.judgeAfterRead pulse enables).lineLawful carried enables pulse := by
  cases pulse with
  | false => exact ⟨by simp [PortState.judgeAfterRead, PortState.judgeLevel],
      fun _ => ⟨rfl, (h.2.1 rfl).2⟩, nofun⟩
  | true => exact ⟨by simp [PortState.judgeAfterRead], nofun, h.2.2⟩

end Line

/-! ### The law -/

section PortLaw

variable {s t : State}

/-- A port is sound under the profile in force. -/
def State.portSound (s : State) (port : Port) : Prop :=
  (s.port port).sound (carriedNotices port) (s.profile.enables port) (s.profile.pulseMode port)

theorem portsSound_of_running (run : s.running = true) (sound : ∀ port, s.portSound port) : PortsSound s :=
  ⟨sound, fun still => by rw [run] at still; cases still⟩

theorem PortMove.sound {port : Port} {x : PortState} (move : PortMove s port x) (h : s.portSound port) :
    x.sound (carriedNotices port) (s.profile.enables port) (s.profile.pulseMode port) := by
  obtain ⟨line, replies⟩ := (PortState.sound_iff _ _ _ _).mp h
  refine (PortState.sound_iff _ _ _ _).mpr ?_
  have transmits (r : Reply) : ((s.port port).transmit r).lineLawful (carriedNotices port)
      (s.profile.enables port) (s.profile.pulseMode port) := by
    unfold PortState.transmit; split <;> exact line
  cases move with
  | receiver | service | cursors => exact ⟨line, replies⟩
  | reply r formed => exact ⟨transmits r, PortState.transmit_lawful replies (.inl formed)⟩
  | busy kind tag =>
    refine ⟨?_, PortState.answerBusy_lawful replies kind tag⟩
    unfold PortState.answerBusy
    split
    · exact line
    · exact transmits _
  | sent =>
    refine ⟨?_, PortState.transmitted_lawful replies⟩
    unfold PortState.transmitted; split <;> exact line
  | read =>
    refine ⟨PortState.judgeAfterRead_lawful line, ?_⟩
    unfold PortState.judgeAfterRead; split <;> exact replies
  | pulse mode =>
    rw [mode] at line ⊢
    refine ⟨PortState.pulseTimer_lawful line, ?_⟩
    obtain ⟨_, rfl, same⟩ := (s.port port).pulseTimer_eq
    rw [same]; exact replies

theorem State.postOn_sound (port : Port) (k : Notice) (h : ∀ q, s.portSound q) (q : Port) :
    (s.postOn port k).portSound q := by
  unfold State.postOn
  split
  · rename_i carries
    obtain ⟨line, replies⟩ := (PortState.sound_iff _ _ _ _).mp (h port)
    have posted : PortState.sound ((s.port port).post (s.profile.pulseMode port) (s.profile.enables port) k)
        (carriedNotices port) (s.profile.enables port) (s.profile.pulseMode port) := by
      refine (PortState.sound_iff _ _ _ _).mpr ⟨PortState.post_lawful line carries, ?_⟩
      unfold PortState.repliesLawful
      rwa [PortState.post_waiting, PortState.post_sending]
    cases port <;> cases q
    · exact posted
    · exact h .operator
    · exact h .market
    · exact posted
  · exact h q

theorem State.putProfile_sound (p : Profile) (h : ∀ q, s.portSound q) (q : Port) :
    (s.putProfile p).portSound q := by
  obtain ⟨line, replies⟩ := (PortState.sound_iff _ _ _ _).mp (h q)
  have judged : PortState.sound ((s.port q).rejudge (s.profile.pulseMode q) (p.pulseMode q) (p.enables q))
      (carriedNotices q) (p.enables q) (p.pulseMode q) := by
    refine (PortState.sound_iff _ _ _ _).mpr ⟨PortState.rejudge_lawful line, ?_⟩
    obtain ⟨_, rfl, same⟩ := (s.port q).rejudge_eq (s.profile.pulseMode q) (p.pulseMode q) (p.enables q)
    rw [same]; exact replies
  cases q <;> exact judged

theorem Move.keeps_ports (move : Move s t) (h : PortsSound s) : PortsSound t := by
  have after (run : s.running = true) (sound : ∀ q, t.portSound q) : PortsSound t :=
    portsSound_of_running (move.running.trans run) sound
  cases move with
  | port port x move run =>
    refine after run fun q => ?_
    have moved := move.sound (h.1 port)
    cases port <;> cases q
    · exact moved
    · exact h.1 .operator
    · exact h.1 .market
    · exact moved
  | post k run => exact after run (State.postOn_sound _ k (State.postOn_sound _ k h.1))
  | profile p move run => exact after run (State.putProfile_sound p h.1)
  | book _ move => cases move <;> exact h
  | delivery _ move => cases move <;> exact h
  | _ => exact h

/-- Fresh ports are sound under every profile, and their lines are low. -/
theorem portsSound_of_initial (market : t.market = .initial) (operator : t.operator = .initial) :
    PortsSound t := by
  have fresh (port : Port) : t.port port = .initial := by cases port <;> assumption
  refine ⟨fun port => ?_, fun _ port => by rw [fresh]; rfl⟩
  rw [fresh, PortState.sound_iff]
  exact ⟨PortState.initial_lawful, by simp [PortState.repliesLawful, PortState.initial]⟩

theorem Restart.keeps_ports (restart : Restart s t) : PortsSound t := by
  cases restart <;> exact portsSound_of_initial rfl rfl

end PortLaw

/-- Settles O15: each change of a port keeps its line and its replies lawful, a posting and a profile put in
force judge both lines, and a part that is held has fresh ports. -/
theorem everyStepKeepsThePorts : Obligations.EveryStepKeepsThePorts := fun _ _ h done =>
  step_keeps (fun _ _ restart _ => restart.keeps_ports) (fun _ _ move => move.keeps_ports) done h

end Sys2Proof.Machine

/-! PROOFS. The law of the fleet link (R123, R126 to R135). -/

namespace Sys2Proof.Machine

/-! ### The indices a round walks (R126) -/

theorem mem_walkOrder {start a : Nat} (low : 1 ≤ start) (high : start ≤ 240) :
    a ∈ walkOrder start ↔ 1 ≤ a ∧ a ≤ 240 := by
  simp only [walkOrder, List.mem_append, List.mem_range'_1]
  omega

theorem advanceIndex_range {i : Nat} (low : 1 ≤ i) : 1 ≤ advanceIndex i ∧ advanceIndex i ≤ 240 := by
  unfold advanceIndex; split <;> omega

/-! ### The law -/

/-- The walk's own figures keep their ranges. -/
def Link.walkLawful (l : Link) : Prop :=
  (∀ a ∈ l.position, 1 ≤ a ∧ a ≤ 240) ∧ 1 ≤ l.startIndex ∧ l.startIndex ≤ 240 ∧ l.round ≤ maxWord

/-- The law of the link by itself. -/
def Link.lawful (l : Link) : Prop :=
  (l.fbde = true ↔ l.phase = .sending) ∧ (l.visit = none ↔ l.phase = .pacing) ∧
    (∀ v ∈ l.visit, l.position = some v.address) ∧ l.walkLawful

/-- A part that runs and paces waits for its round timer. -/
def State.paceWaits (s : State) : Prop :=
  s.running = true → s.link.phase = .pacing → s.link.roundTimer.isSome = true

theorem linkSound_iff (s : State) : LinkSound s ↔
    s.link.lawful ∧ (1 ≤ s.apportioner.rotation ∧ s.apportioner.rotation ≤ 240) ∧ s.paceWaits := by
  simp only [LinkSound, Link.lawful, Link.walkLawful, State.paceWaits, and_assoc]

theorem Link.initial_lawful : Link.initial.lawful := by
  simp [Link.lawful, Link.walkLawful, Link.initial]

section LinkLaw

variable {s t : State}

theorem Link.walkLawful.ahead_range {l : Link} (h : l.walkLawful) {a : Nat} (ahead : a ∈ l.ahead) :
    1 ≤ a ∧ a ≤ 240 := by
  obtain ⟨-, low, high, -⟩ := h
  refine (mem_walkOrder low high).mp ?_
  unfold Link.ahead at ahead
  split at ahead
  · exact ahead
  · exact List.dropWhile_subset _ (List.mem_of_mem_drop ahead)

/-- The walk finds an entry of the table, at an index ahead. -/
theorem State.nextVisit_found {a : Nat} (next : s.nextVisit = some a) :
    a ∈ s.link.ahead ∧ ∃ u, Fleet.get s.fleet a = some u := by
  refine ⟨List.mem_of_find?_eq_some next, ?_⟩
  have found := List.find?_some next
  unfold visited at found
  split at found
  · cases found
  · exact ⟨_, ‹_›⟩

theorem State.beginVisit_link {a : Nat} {u : UnitRecord} (found : Fleet.get s.fleet a = some u) :
    (s.beginVisit a).link = { s.link with
      position := some a, phase := .sending, fbde := true
      visit := some ⟨a, setpointFrame a u s.episodeOpen, s.profile.nat .replyTimeout, false, []⟩ } := by
  unfold State.beginVisit; rw [found]

/-- The first step of a walk is a visit to an entry ahead, or pacing with none left. -/
theorem State.startWalk_lawful (h : s.link.walkLawful) : s.startWalk.link.lawful ∧
    (s.startWalk.link.phase = .pacing → s.nextVisit = none) ∧
    s.startWalk.link.roundTimer = s.link.roundTimer := by
  unfold State.startWalk
  split
  · rename_i a next
    obtain ⟨ahead, u, found⟩ := State.nextVisit_found next
    rw [State.beginVisit_link found]
    refine ⟨⟨by simp, by simp, ?_, ?_, h.2⟩, nofun, rfl⟩
    · rintro v ⟨⟩; rfl
    · rintro b ⟨⟩; exact h.ahead_range ahead
  · rename_i none_
    exact ⟨⟨by simp [State.pace], by simp [State.pace], nofun, h⟩, fun _ => none_, rfl⟩

theorem Link.markRemoved_lawful {l : Link} (leaves : Nat → Bool) (h : l.lawful) :
    (l.markRemoved leaves).lawful ∧ (l.markRemoved leaves).phase = l.phase ∧
      (l.markRemoved leaves).roundTimer = l.roundTimer := by
  obtain ⟨driver, visit, address, rest⟩ := id h
  unfold Link.markRemoved
  split
  · refine ⟨⟨driver, by rw [← visit]; exact Option.map_eq_none_iff, fun w kept => ?_, rest⟩, rfl, rfl⟩
    obtain ⟨v, held, rfl⟩ := Option.map_eq_some_iff.mp kept
    exact address v held
  · exact ⟨h, rfl, rfl⟩

theorem LinkMove.keeps {l : Link} (move : LinkMove s l) (h : s.link.lawful) (waits : s.paceWaits) :
    l.lawful ∧ (s.running = true → l.phase = .pacing → l.roundTimer.isSome = true) := by
  obtain ⟨driver, visit, address, walk⟩ := id h
  cases move with
  | sent =>
    unfold State.frameSent
    split
    · rename_i v _ held
      exact ⟨⟨by simp, by simp [held], address, walk⟩, nofun⟩
    · exact ⟨h, waits⟩
  | quiet timeout v buffer phase held =>
    have still : s.link.fbde ≠ true := fun driven => by rw [driver, phase] at driven; cases driven
    refine ⟨⟨by simp [State.enterQuiet, still], by simp [State.enterQuiet, held], ?_, walk⟩, nofun⟩
    intro w kept
    simp only [State.enterQuiet, held, Option.map_some, Option.mem_def, Option.some.injEq] at kept
    subst kept
    exact address v held
  | character =>
    unfold State.quietCharacter
    split
    · rename_i bound phase
      rw [phase] at driver visit
      exact ⟨⟨by simpa using driver, by simpa using visit, address, walk⟩, nofun⟩
    · exact ⟨h, waits⟩
  | expired walking => exact ⟨h, fun _ pacing => absurd pacing walking⟩
  | walk going =>
    obtain ⟨lawful, ends, timer⟩ := State.startWalk_lawful walk
    exact ⟨lawful, fun _ pacing => timer ▸ going.resolve_right (not_not.mpr (ends pacing))⟩
  | round timer =>
    have begun : (s.withRound timer).link.walkLawful := by
      obtain ⟨-, low, -, round⟩ := walk
      obtain ⟨low', high'⟩ := advanceIndex_range low
      refine ⟨nofun, low', high', ?_⟩
      unfold State.withRound; dsimp only; split <;> omega
    obtain ⟨lawful, -, armed⟩ := State.startWalk_lawful begun
    exact ⟨lawful, fun _ _ => by rw [armed]; rfl⟩
  | removed leaves =>
    obtain ⟨lawful, phase, timer⟩ := Link.markRemoved_lawful leaves h
    exact ⟨lawful, fun run pacing => timer ▸ waits run (phase ▸ pacing)⟩

end LinkLaw

theorem Move.keeps_link {s t : State} (move : Move s t) (h : LinkSound s) : LinkSound t := by
  obtain ⟨lawful, rotation, waits⟩ := (linkSound_iff s).mp h
  refine (linkSound_iff t).mpr ?_
  cases move with
  | port port => cases port <;> exact ⟨lawful, rotation, waits⟩
  | post => rw [State.post_ports]; exact ⟨lawful, rotation, waits⟩
  | book _ move => cases move <;> exact ⟨lawful, rotation, waits⟩
  | delivery _ move => cases move <;> exact ⟨lawful, rotation, waits⟩
  | apportioner => exact ⟨lawful, advanceIndex_range rotation.1, waits⟩
  | link l move =>
    obtain ⟨lawful', waits'⟩ := move.keeps lawful waits
    exact ⟨lawful', rotation, waits'⟩
  | _ => exact ⟨lawful, rotation, waits⟩

theorem Restart.keeps_link {s t : State} (restart : Restart s t) : LinkSound t := by
  refine (linkSound_iff t).mpr ?_
  have rotation : 1 ≤ Apportioner.initial.rotation ∧ Apportioner.initial.rotation ≤ 240 := by decide
  cases restart with
  | starts => exact ⟨Link.initial_lawful, rotation, fun _ _ => rfl⟩
  | holds powered resetLow straps still =>
    refine ⟨Link.initial_lawful, rotation, fun run => ?_⟩
    rw [show State.running _ = (powered && !resetLow) from rfl, still] at run
    cases run

/-- Settles O53: a visit begins with the driver enabled and an entry of the table, and ends at the next step of
the walk; pacing begins only while the round timer runs. -/
theorem everyStepKeepsTheFleetLink : Obligations.EveryStepKeepsTheFleetLink := fun _ _ h done =>
  step_keeps (fun _ _ restart _ => restart.keeps_link) (fun _ _ move => move.keeps_link) done h

end Sys2Proof.Machine

/-! PROOFS. The law of the levels (R80 to R91). -/

namespace Sys2Proof.Machine

/-! ### Levels within −4096 .. 4096 -/

/-- A level within its range. -/
def levelInRange (level : Int) : Prop := -4096 ≤ level ∧ level ≤ 4096

theorem propFormula_inRange (nominal latest deadband full : Nat) :
    levelInRange (propFormula nominal latest deadband full) := by
  unfold propFormula levelInRange
  dsimp only
  split
  · omega
  · generalize (nominal : Int) - latest = d
    generalize (d.natAbs - deadband) * 4096 / (full - deadband) = beyond
    rcases Int.sign_trichotomy d with sign | sign | sign <;> rw [sign] <;> omega

theorem decayLevel_inRange {level : Int} (h : levelInRange level) : levelInRange (decayLevel level) := by
  unfold decayLevel levelInRange at *
  rcases Int.sign_trichotomy level with sign | sign | sign <;> rw [sign] <;> omega

theorem rampToward_inRange {level target : Int} (step : Nat) (h : levelInRange level)
    (aim : levelInRange target) : levelInRange (rampToward step level target) := by
  unfold rampToward levelInRange at *
  split
  · exact aim
  · split <;> omega

theorem capacitySide_inRange {level : Int} (capacity : Sides) (h : levelInRange level) :
    levelInRange (capacitySide capacity level) := by
  unfold capacitySide levelInRange at *
  split
  · omega
  · split <;> omega

theorem capacitySide_sides (capacity : Sides) (level : Int) :
    (capacity.up = 0 → capacitySide capacity level ≤ 0) ∧
      (capacity.down = 0 → 0 ≤ capacitySide capacity level) := by
  unfold capacitySide
  split
  · exact ⟨fun _ => le_rfl, fun _ => le_rfl⟩
  · split
    · exact ⟨fun _ => le_rfl, fun _ => le_rfl⟩
    · constructor <;> intro none_ <;> simp_all

/-- The release's level falls with the steps left (R86). -/
theorem release_inRange {left steps : Nat} (h : left ≤ steps) :
    levelInRange ((4096 * (left - 1) / steps : Nat) : Int) := by
  have bound : 4096 * (left - 1) / steps ≤ 4096 := by
    rcases Nat.eq_zero_or_pos steps with rfl | positive
    · simp
    · exact Nat.div_le_of_le_mul (by rw [Nat.mul_comm]; exact Nat.mul_le_mul_right _ (by omega))
  generalize 4096 * (left - 1) / steps = level at bound ⊢
  unfold levelInRange; omega

/-- A required power lies within the capacity of its side (R80). -/
theorem requiredPower_within {level : Int} (capacity : Sides) (h : levelInRange level) :
    -(capacity.down : Int) ≤ requiredPower capacity level ∧ requiredPower capacity level ≤ capacity.up := by
  obtain ⟨low, high⟩ := h
  unfold requiredPower
  split
  · have between := scaled_mem_uIcc (capacity.up : Int) (k := level.toNat) (by omega)
    rw [Int.toNat_of_nonneg (by omega), mul_comm, Set.uIcc_of_le (by omega)] at between
    obtain ⟨bottom, top⟩ := between
    omega
  · split
    · have between := scaled_mem_uIcc (-(capacity.down : Int)) (k := (-level).toNat) (by omega)
      rw [Int.toNat_of_nonneg (by omega), neg_mul_neg, mul_comm, Set.uIcc_of_ge (by omega)] at between
      obtain ⟨bottom, top⟩ := between
      omega
    · omega

/-! ### One level record -/

section LevelLaw

variable {snapshot : Snapshot} {capacity : Sides} {l : LevelRecord}

theorem newLevelRecord_sound : (newLevelRecord snapshot).sound snapshot capacity := by
  refine ⟨by simp [newLevelRecord], by simp [newLevelRecord], fun _ => le_rfl, fun _ => le_rfl, rfl,
    by simp [newLevelRecord], by simp [newLevelRecord], ?_⟩
  rintro d sup ramp lockout left rfl releasing
  cases releasing

/-- A change of phase that begins no release but one of full length keeps the law. -/
theorem LevelRecord.mapPhase_sound (h : l.sound snapshot capacity) {f : TrigPhase → TrigPhase}
    (releases : ∀ phase left, f phase = .releasing left → phase = .releasing left ∨
      ∀ d sup ramp lockout, snapshot = .trig d sup ramp lockout → left ≤ 5 * ramp) :
    (l.mapPhase f).sound snapshot capacity := by
  obtain ⟨low, high, up, down, power, above, below, release⟩ := h
  unfold LevelRecord.mapPhase
  split
  · rename_i phase follower
    refine ⟨low, high, up, down, power, above, below, ?_⟩
    intro d sup ramp lockout left trig releasing
    rw [Follower.trig.injEq] at releasing
    rcases releases phase left releasing with same | bound
    · exact release d sup ramp lockout left trig (by rw [follower, same])
    · exact bound d sup ramp lockout trig
  · exact ⟨low, high, up, down, power, above, below, release⟩

theorem enterLockout_ne_releasing (now lockout left : Nat) : enterLockout now lockout ≠ .releasing left := by
  unfold enterLockout; split <;> nofun

theorem takenMeasurement_sound (now nominal f : Nat) (h : l.sound snapshot capacity) :
    (takenMeasurement now nominal f snapshot l).sound snapshot capacity := by
  unfold takenMeasurement
  split
  · refine LevelRecord.mapPhase_sound h fun phase left releasing => .inl ?_
    cases phase with
    | ready count =>
      simp only [takeConfirmation] at releasing
      split at releasing
      · split at releasing <;> cases releasing
      · cases releasing
    | firing | releasing | lockout => exact releasing
  · exact h

theorem clearConfirmation_sound (h : l.sound snapshot capacity) :
    (l.mapPhase clearConfirmation).sound snapshot capacity := by
  refine LevelRecord.mapPhase_sound h fun phase left releasing => .inl ?_
  cases phase with
  | ready => cases releasing
  | firing | releasing | lockout => exact releasing

theorem endLockout_sound (h : l.sound snapshot capacity) :
    (l.mapPhase endLockout).sound snapshot capacity := by
  refine LevelRecord.mapPhase_sound h fun phase left releasing => .inl ?_
  cases phase with
  | lockout => cases releasing
  | firing | releasing | ready => exact releasing

theorem endedSupport_sound (now : Nat) (h : l.sound snapshot capacity) :
    (endedSupport now snapshot l).sound snapshot capacity := by
  unfold endedSupport
  split
  · refine LevelRecord.mapPhase_sound h fun phase left releasing => ?_
    cases phase with
    | firing =>
      dsimp only at releasing
      split at releasing
      · cases releasing
        exact .inr (by rintro _ _ _ _ ⟨⟩; exact le_rfl)
      · exact (enterLockout_ne_releasing _ _ _ releasing).elim
    | lockout | releasing | ready => exact .inl releasing
  · exact h

theorem formLevel_inRange {x : CycleInputs} (target : levelInRange x.target)
    (h : l.sound snapshot capacity) : levelInRange (formLevel x snapshot capacity l).1 := by
  obtain ⟨low, high, -, -, -, -, -, release⟩ := h
  have held : levelInRange l.level := ⟨low, high⟩
  unfold formLevel
  split
  · split
    · exact propFormula_inRange ..
    · split
      · exact held
      · exact decayLevel_inRange held
  · rename_i follower
    split
    · exact ⟨by omega, by omega⟩
    · exact ⟨by omega, by omega⟩
    · exact release_inRange (release _ _ _ _ _ rfl follower)
    · exact ⟨by omega, by omega⟩
  · exact rampToward_inRange _ held (capacitySide_inRange _ target)
  · exact held

/-- A release under way counts down and begins at no cycle computation (R86). -/
theorem formLevel_releasing {x : CycleInputs} {d sup ramp lockout left : Nat}
    (trig : snapshot = .trig d sup ramp lockout)
    (releasing : (formLevel x snapshot capacity l).2 = .trig (.releasing left)) :
    ∃ before, left ≤ before ∧ l.follower = .trig (.releasing before) := by
  subst trig
  unfold formLevel at releasing
  cases follower : l.follower with
  | trig phase =>
    rw [follower] at releasing
    cases phase with
    | ready | firing | lockout => cases releasing
    | releasing before =>
      simp only [Follower.trig.injEq] at releasing
      split at releasing
      · exact (enterLockout_ne_releasing _ _ _ releasing).elim
      · cases releasing; exact ⟨before, by omega, rfl⟩
  | prop | setp => rw [follower] at releasing; cases releasing

theorem cycleLevel_sound {x : CycleInputs} (target : levelInRange x.target)
    (h : l.sound snapshot capacity) : (cycleLevel x snapshot capacity l).sound snapshot capacity := by
  have range := capacitySide_inRange capacity (formLevel_inRange target h)
  obtain ⟨up, down⟩ := capacitySide_sides capacity (formLevel x snapshot capacity l).1
  obtain ⟨above, below⟩ := requiredPower_within capacity range
  refine ⟨range.1, range.2, up, down, rfl, above, below, ?_⟩
  intro d sup ramp lockout left trig releasing
  obtain ⟨before, less, follower⟩ := formLevel_releasing trig releasing
  obtain ⟨-, -, -, -, -, -, -, release⟩ := h
  exact less.trans (release d sup ramp lockout before trig follower)

end LevelLaw

/-! ### The records of the book -/

/-- The level record of a commitment, where it has one, is sound. -/
def Commitment.levelLawful (c : Commitment) : Prop := ∀ l ∈ c.level, l.sound c.snapshot c.capacity

section CommitmentLaw

variable {c : Commitment}

theorem Commitment.mapLevel_lawful {f : LevelRecord → LevelRecord} (h : c.levelLawful)
    (keeps : ∀ l : LevelRecord, l.sound c.snapshot c.capacity → (f l).sound c.snapshot c.capacity) :
    (c.mapLevel f).levelLawful := by
  unfold Commitment.mapLevel Commitment.levelLawful Commitment.level at *
  cases standing : c.standing with
  | pending => simp [standing]
  | inForce l | overrun l =>
    rw [standing] at h
    rintro _ ⟨⟩
    exact keeps l (h l rfl)

theorem Commitment.endOrStay_lawful (n : Nat) (h : c.levelLawful) : (c.endOrStay n).levelLawful := by
  unfold Commitment.endOrStay
  split
  · unfold Commitment.overrun
    split
    · rename_i l standing
      rintro _ ⟨⟩
      exact h l (by simp [Commitment.level, standing])
    · exact h
  · exact h

theorem Commitment.beginOrStay_lawful (n : Nat) (h : c.levelLawful) : (c.beginOrStay n).levelLawful := by
  unfold Commitment.beginOrStay
  split
  · rintro _ ⟨⟩; exact newLevelRecord_sound
  · exact h

theorem LevelMove.keeps {s : State} {g : Commitment → LevelRecord → LevelRecord} (move : LevelMove s g)
    (target : levelInRange s.levels.target) (l : LevelRecord) (h : l.sound c.snapshot c.capacity) :
    (g c l).sound c.snapshot c.capacity := by
  cases move with
  | measurement f => exact takenMeasurement_sound _ _ _ h
  | leftValid => exact clearConfirmation_sound h
  | cycle x same =>
    subst same
    refine cycleLevel_sound ?_ h
    unfold State.cycleInputs; dsimp only; split
    · exact ⟨by omega, by omega⟩
    · exact target
  | support id =>
    dsimp only; split
    · exact endedSupport_sound _ h
    · exact h
  | lockout id =>
    dsimp only; split
    · exact endLockout_sound h
    · exact h

end CommitmentLaw

theorem mem_insertByKey {c d : Commitment} {l : List Commitment} (mem : d ∈ insertByKey c l) :
    d = c ∨ d ∈ l := by
  induction l with
  | nil => exact .inl (List.mem_singleton.mp mem)
  | cons e l ih =>
    unfold insertByKey at mem
    split at mem
    · exact List.mem_cons.mp mem
    · rcases List.mem_cons.mp mem with rfl | rest
      · exact .inr List.mem_cons_self
      · exact (ih rest).imp_right (List.mem_cons_of_mem _)

section Law

variable {s t : State}

/-- The law of the levels, of the level unit and the book. -/
theorem levelsSound_iff (s : State) : LevelsSound s ↔
    (s.levels.holdover ≤ 255 ∧ levelInRange s.levels.target) ∧
      ∀ c ∈ s.book.records, c.levelLawful := by
  simp only [LevelsSound, levelInRange, Commitment.levelLawful, and_assoc]

theorem BookMove.keeps_levels (move : BookMove s t) (target : levelInRange s.levels.target)
    (h : ∀ c ∈ s.book.records, c.levelLawful) :
    t.levels = s.levels ∧ ∀ c ∈ t.book.records, c.levelLawful := by
  have less (l : List Commitment) : ∀ c ∈ (s.book.less l).records, c.levelLawful :=
    fun c mem => h c (List.mem_of_mem_filter mem)
  cases move with
  | second | first | refresh => exact ⟨rfl, h⟩
  | boundary =>
    refine ⟨rfl, fun c mem => ?_⟩
    obtain ⟨d, old, rfl⟩ := List.mem_map.mp mem
    exact Commitment.beginOrStay_lawful _ (Commitment.endOrStay_lawful _ (less _ d old))
  | award r seq snapshot =>
    refine ⟨rfl, fun c mem => ?_⟩
    rcases mem_insertByKey mem with rfl | old
    · rintro _ ⟨⟩
    · exact h c old
  | leave l => exact ⟨rfl, less l⟩
  | levels g move =>
    refine ⟨rfl, fun c mem => ?_⟩
    obtain ⟨d, old, rfl⟩ := List.mem_map.mp mem
    exact Commitment.mapLevel_lawful (h d old) (move.keeps target)
  | marks live planning =>
    refine ⟨rfl, fun c mem => ?_⟩
    obtain ⟨d, old, rfl⟩ := List.mem_map.mp mem
    unfold Commitment.remark
    split <;> exact h d old

theorem Move.keeps_levels (move : Move s t) (h : LevelsSound s) : LevelsSound t := by
  rw [levelsSound_iff] at h ⊢
  cases move with
  | port port => cases port <;> exact h
  | post => rw [State.post_ports]; exact h
  | book _ move =>
    obtain ⟨unit, records⟩ := h
    obtain ⟨same, lawful⟩ := move.keeps_levels unit.2 records
    exact ⟨same ▸ unit, lawful⟩
  | delivery _ move => cases move <;> exact h
  | levelUnit x hold target =>
    obtain ⟨⟨few, aim⟩, records⟩ := h
    exact ⟨⟨hold.elim id (·.trans_le few), target.elim id (· ▸ aim)⟩, records⟩
  | _ => exact h

theorem Restart.keeps_levels (restart : Restart s t) : LevelsSound t := by
  rw [levelsSound_iff]
  cases restart <;> exact ⟨⟨le_rfl, by simp [levelInRange, LevelUnit.initial, State.blocksReset, State.held]⟩,
    nofun⟩

end Law

/-- Settles O45: the cycle computation forms a level in its range and applies the capacity-side rule before
the power; a release counts down from its length; the other changes leave level and power. -/
theorem everyStepKeepsTheLevels : Obligations.EveryStepKeepsTheLevels := fun _ _ h done =>
  step_keeps (fun _ _ restart _ => restart.keeps_levels) (fun _ _ move => move.keeps_levels) done h

end Sys2Proof.Machine

/-! PROOFS. The law of the Fleet Table (R21 to R38, R119). -/

namespace Sys2Proof.Machine

/-! ### A table in rising order -/

/-- At most one unit is under test (R34), said of any two entries. -/
def Fleet.oneTest (f : Fleet) : Prop :=
  ∀ d ∈ f, ∀ e ∈ f, d.2.inTest = true → e.2.inTest = true → d.1 = e.1

/-- The entries stand in rising order. -/
def Fleet.rising (f : Fleet) : Prop := (f.map Prod.fst).Pairwise (· < ·)

theorem Fleet.oneTest_iff {f : Fleet} (rising : f.rising) :
    (f.filter fun e => e.2.inTest).length ≤ 1 ↔ f.oneTest := by
  constructor
  · intro few d mem e mem' test test'
    have member : d ∈ f.filter fun e => e.2.inTest := List.mem_filter.mpr ⟨mem, test⟩
    have member' : e ∈ f.filter fun e => e.2.inTest := List.mem_filter.mpr ⟨mem', test'⟩
    obtain ⟨x, only⟩ := List.length_eq_one_iff.mp (few.antisymm (List.length_pos_of_mem member))
    rw [only, List.mem_singleton] at member member'
    rw [member, member']
  · intro one
    by_contra many
    have sub := rising.sublist (List.filter_sublist (p := fun e : Nat × UnitRecord => e.2.inTest) |>.map _)
    match tests : f.filter fun e => e.2.inTest with
    | [] | [_] => simp [tests] at many
    | d :: e :: rest =>
      rw [tests] at sub
      have first : d ∈ f.filter fun e => e.2.inTest := by rw [tests]; simp
      have second : e ∈ f.filter fun e => e.2.inTest := by rw [tests]; simp
      rw [List.mem_filter] at first second
      have same := one d first.1 e second.1 first.2 second.2
      have less : d.1 < e.1 := (List.pairwise_cons.mp sub).1 _ (by simp)
      omega

/-- An entry written is one entry more or in place of the one at its address. -/
theorem Fleet.mem_put {f : Fleet} (rising : f.rising) {a : Nat} {u : UnitRecord} {e : Nat × UnitRecord} :
    e ∈ Fleet.put f a u ↔ e = (a, u) ∨ (e ∈ f ∧ e.1 ≠ a) := by
  induction f with
  | nil => simp [Fleet.put]
  | cons first rest ih =>
    obtain ⟨b, v⟩ := first
    obtain ⟨above, rest'⟩ := List.pairwise_cons.mp rising
    have later : ∀ e ∈ rest, b < e.1 := fun e mem => above e.1 (List.mem_map_of_mem mem)
    unfold Fleet.put
    split
    · rename_i same
      subst same
      simp only [List.mem_cons]
      constructor
      · rintro (rfl | mem)
        · exact .inl rfl
        · exact .inr ⟨.inr mem, (later e mem).ne'⟩
      · rintro (rfl | ⟨rfl | mem, other⟩)
        · exact .inl rfl
        · exact absurd rfl other
        · exact .inr mem
    · rename_i other
      split
      · rename_i less
        simp only [List.mem_cons]
        refine or_congr_right ⟨fun mem => ⟨mem, ?_⟩, And.left⟩
        rcases mem with rfl | mem
        · exact less.ne'
        · exact (less.trans (later e mem)).ne'
      · simp only [List.mem_cons, ih rest']
        constructor
        · rintro (rfl | rfl | ⟨mem, ne⟩)
          · exact .inr ⟨.inl rfl, Ne.symm other⟩
          · exact .inl rfl
          · exact .inr ⟨.inr mem, ne⟩
        · rintro (rfl | ⟨rfl | mem, ne⟩)
          · exact .inr (.inl rfl)
          · exact .inl rfl
          · exact .inr (.inr ⟨mem, ne⟩)

theorem Fleet.put_rising {f : Fleet} (rising : f.rising) (a : Nat) (u : UnitRecord) :
    (Fleet.put f a u).rising := by
  induction f with
  | nil => simp [Fleet.put, Fleet.rising]
  | cons first rest ih =>
    obtain ⟨b, v⟩ := first
    obtain ⟨above, rest'⟩ := List.pairwise_cons.mp rising
    unfold Fleet.put
    split
    · rename_i same
      subst same
      exact rising
    · split
      · rename_i less
        refine List.pairwise_cons.mpr ⟨fun c mem => ?_, rising⟩
        rcases List.mem_cons.mp mem with rfl | mem
        · exact less
        · exact less.trans (above c mem)
      · refine List.pairwise_cons.mpr ⟨fun c mem => ?_, ih rest'⟩
        obtain ⟨e, entry, rfl⟩ := List.mem_map.mp mem
        rcases (Fleet.mem_put rest').mp entry with rfl | ⟨held, -⟩
        · dsimp only; omega
        · exact above e.1 (List.mem_map_of_mem held)

/-- The law of the table by itself; `opened` says that an episode is open. -/
def Fleet.lawful (opened : Bool) (f : Fleet) : Prop :=
  f.rising ∧ (∀ e ∈ f, 1 ≤ e.1 ∧ e.1 ≤ 240) ∧ (∀ e ∈ f, e.2.sound opened) ∧ f.oneTest

section TableLaw

variable {opened still : Bool} {f : Fleet}

/-- Every record changed in place, no test begun. -/
theorem Fleet.lawful.map (h : f.lawful opened) {g : Nat × UnitRecord → Nat × UnitRecord}
    (same : ∀ e, (g e).1 = e.1) (sound : ∀ e ∈ f, (g e).2.sound still)
    (tests : ∀ e, (g e).2.inTest = true → e.2.inTest = true) : Fleet.lawful still (f.map g) := by
  obtain ⟨rising, range, -, one⟩ := h
  have addresses : (f.map g).map Prod.fst = f.map Prod.fst := by
    rw [List.map_map]; exact List.map_congr_left fun e _ => same e
  refine ⟨by unfold Fleet.rising; rw [addresses]; exact rising, ?_, ?_, ?_⟩
  · intro e mem
    obtain ⟨d, held, rfl⟩ := List.mem_map.mp mem
    rw [same]; exact range d held
  · intro e mem
    obtain ⟨d, held, rfl⟩ := List.mem_map.mp mem
    exact sound d held
  · intro d mem e mem' test test'
    obtain ⟨x, held, rfl⟩ := List.mem_map.mp mem
    obtain ⟨y, held', rfl⟩ := List.mem_map.mp mem'
    rw [same, same]
    exact one x held y held' (tests x test) (tests y test')

theorem Fleet.lawful.sublist (h : f.lawful opened) {l : Fleet} (sub : l.Sublist f) : l.lawful opened :=
  ⟨h.1.sublist (sub.map _), fun e mem => h.2.1 e (sub.subset mem), fun e mem => h.2.2.1 e (sub.subset mem),
    fun d mem e mem' => h.2.2.2 d (sub.subset mem) e (sub.subset mem')⟩

/-- A record written, a new test only where none runs elsewhere. -/
theorem Fleet.lawful.put (h : f.lawful opened) {a : Nat} {u : UnitRecord} (range : 1 ≤ a ∧ a ≤ 240)
    (sound : u.sound opened)
    (tests : u.inTest = true → ∀ e ∈ f, e.2.inTest = true → e.1 = a) :
    (Fleet.put f a u).lawful opened := by
  obtain ⟨rising, ranges, sounds, one⟩ := h
  refine ⟨Fleet.put_rising rising a u, fun e mem => ?_, fun e mem => ?_, fun d mem e mem' test test' => ?_⟩
  · rcases (Fleet.mem_put rising).mp mem with rfl | ⟨mem, -⟩
    · exact range
    · exact ranges e mem
  · rcases (Fleet.mem_put rising).mp mem with rfl | ⟨mem, -⟩
    · exact sound
    · exact sounds e mem
  · rcases (Fleet.mem_put rising).mp mem with rfl | ⟨mem, -⟩ <;>
      rcases (Fleet.mem_put rising).mp mem' with rfl | ⟨mem', -⟩
    · rfl
    · exact (tests test e mem' test').symm
    · exact tests test' d mem test
    · exact one d mem e mem' test test'

end TableLaw

/-! ### One unit record -/

theorem UnitRecord.isOff_iff (u : UnitRecord) : u.isOff = true ↔ u.mode = .plain .off := by
  simp [UnitRecord.isOff]

theorem UnitRecord.eligible_iff (u : UnitRecord) : u.eligible = true ↔
    u.link = .live ∧ u.bars.empty = true ∧ u.inTest = false ∧ u.isOff = false := by
  simp [UnitRecord.eligible, and_assoc]

/-- A unit under test keeps the prior mode it returns to; any other mode is its own. -/
theorem Mode.sound.enrolled_sound {link : LinkState} {m : Mode} (h : m.sound link) : m.enrolled.sound := by
  cases m with
  | plain m => exact h
  | test t => exact h.2.2.1

/-- A power clamped to limits in multiples of 10 W (R118). -/
theorem clampToLimits_lawful {r : Report} (h : r.sound) {power : Int} (tens : power % 10 = 0) :
    clampToLimits r power % 10 = 0 ∧ -(r.maxCharge : Int) ≤ clampToLimits r power ∧
      clampToLimits r power ≤ r.maxDischarge := by
  obtain ⟨-, -, discharge, charge, -⟩ := h
  unfold clampToLimits clamp
  split
  · omega
  · split <;> omega

theorem clampToLimits_zero (r : Report) : clampToLimits r 0 = 0 := by
  unfold clampToLimits clamp; split <;> [omega; (split <;> omega)]

section UnitLaw

variable {opened : Bool} {u : UnitRecord}

theorem UnitRecord.enrolled_sound {m : EnrolMode} {g : Nat} (mode : m.sound) (inRange : g ≤ 4096) :
    (UnitRecord.enrolled m g).sound opened := by
  refine ⟨inRange, Nat.zero_le _, Nat.zero_le _, mode, nofun, nofun, rfl, rfl, rfl, rfl, rfl,
    fun _ => ⟨rfl, rfl, rfl⟩, nofun, nofun⟩

theorem UnitRecord.sound.open_ (h : u.sound opened) : u.sound true := by
  obtain ⟨g, misses, holds, mode, reported, report, up, down, setpoint, share, back, still, limits,
    baseline⟩ := h
  exact ⟨g, misses, holds, mode, reported, report, up, down, setpoint, share, back, still, limits,
    fun held => ⟨(baseline held).1, rfl⟩⟩

theorem UnitRecord.dropBaseline_sound (h : u.sound opened) (still : Bool) : u.dropBaseline.sound still := by
  obtain ⟨g, misses, holds, mode, reported, report, up, down, setpoint, share, back, still, limits, -⟩ := h
  exact ⟨g, misses, holds, mode, reported, report, up, down, setpoint, share, back, still, limits, nofun⟩

theorem UnitRecord.takeBaseline_sound (h : u.sound true) : u.takeBaseline.sound true := by
  unfold UnitRecord.takeBaseline
  split
  · rename_i live _
    obtain ⟨g, misses, holds, mode, reported, report, up, down, setpoint, share, back, still, limits, -⟩ := h
    exact ⟨g, misses, holds, mode, reported, report, up, down, setpoint, share, back, still, limits,
      fun _ => ⟨live, rfl⟩⟩
  · exact h

/-- The mode a test returns to is not OFF, so its setpoint stands (R37). -/
theorem UnitRecord.sound.leaveTest (h : u.sound opened) {t : TestRecord} (test : u.mode = .test t)
    {g : Nat} (inRange : g ≤ 4096) (bars : BarReasons) (last : Option TestOutcome) :
    UnitRecord.sound opened { u with g := g, bars := bars, mode := .plain t.prior, lastTest := last } := by
  obtain ⟨-, misses, holds, mode, reported, report, up, down, setpoint, share, back, still, limits,
    baseline⟩ := h
  rw [test] at mode
  obtain ⟨live, notOff, prior, -⟩ := mode
  refine ⟨inRange, misses, holds, prior, reported, report, up, down, setpoint, share, back,
    fun off => ?_, limits, baseline⟩
  rcases off with dead | off
  · exact absurd live dead
  · rw [UnitRecord.isOff_iff] at off
    simp only [Mode.plain.injEq] at off
    exact absurd off notOff

theorem UnitRecord.abortTest_sound (h : u.sound opened) : u.abortTest.sound opened := by
  unfold UnitRecord.abortTest
  split
  · rename_i t test
    exact h.leaveTest test h.1 u.bars _
  · exact h

theorem UnitRecord.abortTest_inTest (u : UnitRecord) : u.abortTest.inTest = false := by
  unfold UnitRecord.abortTest
  split
  · rfl
  · rename_i m plain
    unfold UnitRecord.inTest; rw [plain]

theorem UnitRecord.completeTest_sound (h : u.sound opened) (gMin : Nat) :
    (u.completeTest gMin).sound opened := by
  unfold UnitRecord.completeTest
  split
  · exact h
  · rename_i t test
    exact h.leaveTest test t.factor_le _ _

theorem UnitRecord.completeTest_inTest (u : UnitRecord) (gMin : Nat) :
    (u.completeTest gMin).inTest = true → u.inTest = true := by
  unfold UnitRecord.completeTest
  split
  · exact id
  · nofun

theorem UnitRecord.withMode_sound (h : u.sound opened) {m : EnrolMode} (mode : m.sound) (clearLow : Bool) :
    (u.withMode m clearLow).sound opened := by
  obtain ⟨g, misses, holds, -, reported, report, up, down, setpoint, share, back, still, limits,
    baseline⟩ := h
  unfold UnitRecord.withMode
  dsimp only
  split
  · exact ⟨g, misses, holds, mode, reported, report, up, down, rfl, rfl, rfl, fun _ => ⟨rfl, rfl, rfl⟩,
      fun r _ => by simp [UnitRecord.zeroed], baseline⟩
  · rename_i on
    refine ⟨g, misses, holds, mode, reported, report, up, down, setpoint, share, back, fun off => ?_,
      limits, baseline⟩
    rcases off with dead | off
    · exact still (.inl dead)
    · rw [UnitRecord.isOff_iff] at off
      simp only [Mode.plain.injEq] at off
      exact absurd off on

theorem UnitRecord.withMode_inTest (u : UnitRecord) (m : EnrolMode) (clearLow : Bool) :
    (u.withMode m clearLow).inTest = false := by
  unfold UnitRecord.withMode; dsimp only; split <;> rfl

theorem floor10_emod (n : Nat) : floor10 n % 10 = 0 := by unfold floor10; omega

theorem UnitRecord.startTest_sound (h : u.sound opened) (eligible : u.eligible = true) {p : Profile}
    {r : Report} (some_ : testPower p r ≠ 0) (now duration : Nat) :
    UnitRecord.sound opened { u with
      mode := .test ⟨now, u.mode.enrolled, r.power, testPower p r, duration, 0, 0⟩ } := by
  obtain ⟨g, misses, holds, mode, reported, report, up, down, setpoint, share, back, still, limits,
    baseline⟩ := h
  obtain ⟨live, -, idle, on⟩ := (UnitRecord.eligible_iff u).mp eligible
  have notOff : u.mode.enrolled ≠ .off := by
    intro off
    cases plain : u.mode with
    | plain m =>
      rw [plain] at off
      have : u.isOff = true := by rw [UnitRecord.isOff_iff, plain]; exact congrArg _ off
      rw [on] at this; cases this
    | test t => unfold UnitRecord.inTest at idle; rw [plain] at idle; cases idle
  refine ⟨g, misses, holds, ⟨live, notOff, mode.enrolled_sound, by dsimp only; omega, floor10_emod _⟩,
    reported, report, up, down, setpoint, share, back, fun off => ?_, limits, baseline⟩
  rcases off with dead | off
  · exact absurd live dead
  · cases off

/-! #### Visits (R28 to R32) -/

theorem nextLink_live {stale lost misses : Nat} {link : LinkState}
    (live : nextLink stale lost misses link = .live) : link = .live := by
  cases link with
  | live => rfl
  | joining | stale => simp only [nextLink] at live; split at live <;> cases live
  | lost => cases live

theorem UnitRecord.failVisit_sound (h : u.sound opened) (stale lost : Nat) :
    (u.failVisit stale lost).sound opened := by
  obtain ⟨g, misses, holds, mode, reported, report, up, down, setpoint, share, back, still, limits,
    baseline⟩ := h
  have few : min 255 (u.misses + 1) ≤ 255 := Nat.min_le_left _ _
  unfold UnitRecord.failVisit
  dsimp only
  split
  · rename_i leaves
    have within : ∀ r ∈ u.report, -(r.maxCharge : Int) ≤ 0 ∧ (0 : Int) ≤ r.maxDischarge :=
      fun r _ => by omega
    unfold UnitRecord.leaveLive UnitRecord.abortTest UnitRecord.zeroed
    dsimp only
    split
    · rename_i t test
      rw [test] at mode
      exact ⟨g, few, holds, mode.2.2.1, fun live => absurd live leaves.2, report, up, down, rfl, rfl, rfl,
        fun _ => ⟨rfl, rfl, rfl⟩, within, nofun⟩
    · rename_i m plain
      refine ⟨g, few, holds, ?_, fun live => absurd live leaves.2, report, up, down, rfl, rfl, rfl,
        fun _ => ⟨rfl, rfl, rfl⟩, within, nofun⟩
      rw [plain] at mode ⊢
      exact mode
  · rename_i stays
    have same : u.link = .live → nextLink stale lost (min 255 (u.misses + 1)) u.link = .live := by
      simpa using stays
    refine ⟨g, few, holds, ?_, fun live => reported (nextLink_live live), report, up, down, setpoint, share,
      back, fun off => still (off.imp_left (mt same)), limits,
      fun held => ⟨same (baseline held).1, (baseline held).2⟩⟩
    dsimp only
    cases running : u.mode with
    | plain m => rw [running] at mode; exact mode
    | test t => rw [running] at mode; exact ⟨same mode.1, mode.2⟩

theorem UnitRecord.failVisit_inTest (u : UnitRecord) (stale lost : Nat) :
    (u.failVisit stale lost).inTest = true → u.inTest = true := by
  unfold UnitRecord.failVisit
  dsimp only
  split
  · unfold UnitRecord.leaveLive
    rw [UnitRecord.abortTest_inTest]; nofun
  · exact id

/-- A good report carries powers in multiples of 10 W and at most four holds (R131, Table 10-5). -/
theorem judgeFrame_carried {a : Nat} {frame : List Byte} {carried : CarriedReport}
    (good : judgeFrame a frame = .ok carried) :
    carried.report.clamped.sound ∧ carried.holds.length ≤ 4 := by
  unfold judgeFrame at good
  dsimp only at good
  split at good
  · cases good
  · split at good
    · cases good
    · split at good
      · cases good
      · split at good
        · cases good
        · rename_i few
          split at good
          · cases good
          · rename_i holds read
            cases good
            obtain ⟨length, -⟩ := (readHolds_iff _ _ _).mp read
            refine ⟨?_, by dsimp only; omega⟩
            unfold Report.sound Report.clamped reportFields
            dsimp only
            omega

theorem UnitRecord.takeReport_sound (h : u.sound opened) {a : Nat} {frame : List Byte}
    {carried : CarriedReport} (good : judgeFrame a frame = .ok carried) :
    (u.takeReport carried).sound opened := by
  obtain ⟨g, misses, holds, mode, reported, report, up, down, setpoint, share, back, still, limits,
    baseline⟩ := h
  obtain ⟨sound, few⟩ := judgeFrame_carried good
  obtain ⟨tens, low, high⟩ := clampToLimits_lawful sound setpoint
  refine ⟨g, Nat.zero_le _, ?_, ?_, fun _ => rfl, ?_, up, down, tens, share, back, fun off => ?_, ?_,
    fun held => ⟨rfl, (baseline held).2⟩⟩
  · unfold UnitRecord.takeReport takeHolds
    rw [List.length_map]
    exact (List.length_filter_le _ _).trans few
  · unfold UnitRecord.takeReport
    cases running : u.mode with
    | plain m => rw [running] at mode; exact mode
    | test t => rw [running] at mode; exact ⟨rfl, mode.2⟩
  · rintro r ⟨⟩; exact sound
  · have off : u.isOff = true := by
      rcases off with dead | off
      · exact absurd rfl dead
      · rw [UnitRecord.isOff_iff] at off ⊢
        unfold UnitRecord.takeReport at off
        cases running : u.mode with
        | plain m => rw [running] at off; exact off
        | test t => rw [running] at off; cases off
    obtain ⟨zero, share, back⟩ := still (.inr off)
    refine ⟨?_, share, back⟩
    unfold UnitRecord.takeReport
    dsimp only
    rw [zero]
    exact clampToLimits_zero _
  · rintro r ⟨⟩; exact ⟨low, high⟩

theorem UnitRecord.takeReport_inTest (u : UnitRecord) (carried : CarriedReport) :
    (u.takeReport carried).inTest = u.inTest := by
  unfold UnitRecord.takeReport UnitRecord.inTest
  cases u.mode <;> rfl

/-! #### Headroom and setpoints (R39, R113 to R119) -/

theorem liveHeadroom_emod (p : Profile) (slot : Option Nat) (u : UnitRecord) :
    (liveHeadroom p slot u).up % 10 = 0 ∧ (liveHeadroom p slot u).down % 10 = 0 := by
  unfold liveHeadroom
  split
  · exact ⟨floor10_emod _, floor10_emod _⟩
  · exact ⟨rfl, rfl⟩

theorem UnitRecord.withLive_sound (h : u.sound opened) (p : Profile) (slot : Option Nat) :
    UnitRecord.sound opened { u with live := liveHeadroom p slot u } := by
  obtain ⟨g, misses, holds, mode, reported, report, -, -, rest⟩ := h
  exact ⟨g, misses, holds, mode, reported, report, (liveHeadroom_emod p slot u).1,
    (liveHeadroom_emod p slot u).2, rest⟩

end UnitLaw

theorem remainderPass_sublist (l : List Nat) (rem : Nat) : (remainderPass l rem).Sublist l := by
  induction l generalizing rem with
  | nil => exact .slnil
  | cons a l ih =>
    unfold remainderPass
    split
    · exact List.nil_sublist _
    · exact (ih _).cons_cons a

theorem mem_passOrder {rotation a : Nat} {l : List Nat} (mem : a ∈ passOrder rotation l) : a ∈ l := by
  rcases List.mem_append.mp mem with mem | mem <;> exact List.mem_of_mem_filter mem

section Shares

variable {f : Fleet} {rotation : Nat} {asked : Int} {e : Nat × UnitRecord}

theorem participation_emod : participation f rotation asked e % 10 = 0 := by
  unfold participation
  dsimp only
  have tens : (proportional asked.natAbs (entryWeight (shareSide asked) e)
      ((Fleet.weights f).get (shareSide asked))) % 10 = 0 := by
    unfold proportional
    split
    · rfl
    · exact floor10_emod _
  rcases Int.sign_trichotomy asked with sign | sign | sign <;> rw [sign] <;> split <;> omega

/-- A unit of weight 0 takes no share and no remainder (R113, R114). -/
theorem participation_of_weightless (rising : f.rising) (mem : e ∈ f) (none_ : e.2.weight = ⟨0, 0⟩) :
    participation f rotation asked e = 0 := by
  have weight : ∀ side, entryWeight side e = 0 := by
    intro side; unfold entryWeight; rw [none_]; cases side <;> rfl
  have untaken : (takers f rotation asked).contains e.1 = false := by
    rw [Bool.eq_false_iff, Ne, List.contains_iff_mem]
    intro taken
    obtain ⟨d, weighed, same⟩ := List.mem_map.mp (mem_passOrder ((remainderPass_sublist _ _).subset taken))
    obtain ⟨held, heavy⟩ := List.mem_filter.mp weighed
    have found := Fleet.get_of_mem rising (show (e.1, e.2) ∈ f from mem)
    rw [← same, Fleet.get_of_mem rising (show (d.1, d.2) ∈ f from held), Option.some_inj] at found
    have entry : d = e := Prod.ext same found
    subst entry
    simp [weight] at heavy
  unfold participation proportional
  dsimp only
  rw [weight, if_pos rfl, untaken]
  simp

theorem restorationOf_emod (restoring : Bool) (p : Profile) (t : Thermal) (u : UnitRecord) :
    restorationOf restoring p t u % 10 = 0 := by
  unfold restorationOf
  split
  · unfold restorationPower trunc10; exact Int.mul_emod_left _ _
  · rfl

theorem restorationOf_ineligible {restoring : Bool} {p : Profile} {t : Thermal} {u : UnitRecord}
    (ineligible : u.eligible = false) : restorationOf restoring p t u = 0 := by
  unfold restorationOf
  rw [ineligible, Bool.and_false]

theorem composeSetpoint_lawful {opened : Bool} {u : UnitRecord} (h : u.sound opened) {share back : Int}
    (shares : share % 10 = 0) (backs : back % 10 = 0) :
    composeSetpoint u share back % 10 = 0 ∧ (∀ r ∈ u.report,
      -(r.maxCharge : Int) ≤ composeSetpoint u share back ∧ composeSetpoint u share back ≤ r.maxDischarge) ∧
    (u.link ≠ .live ∨ u.isOff = true → composeSetpoint u share back = 0) := by
  obtain ⟨-, -, -, mode, -, report, -⟩ := h
  unfold composeSetpoint
  cases held : u.report with
  | none => exact ⟨rfl, nofun, fun _ => rfl⟩
  | some r =>
    have sound := report r held
    have zero : -(r.maxCharge : Int) ≤ 0 ∧ (0 : Int) ≤ r.maxDischarge := by omega
    dsimp only
    split
    · rename_i eligible
      obtain ⟨live, -, -, on⟩ := (UnitRecord.eligible_iff u).mp eligible
      obtain ⟨tens, limits⟩ := clampToLimits_lawful sound (power := share + back) (by omega)
      refine ⟨tens, by rintro _ ⟨⟩; exact limits, fun off => ?_⟩
      rcases off with dead | off
      · exact absurd live dead
      · rw [on] at off; cases off
    · split
      · rename_i t test
        rw [test] at mode
        obtain ⟨live, -, -, -, tens⟩ := mode
        obtain ⟨tens, limits⟩ := clampToLimits_lawful sound (power := (t.power : Int)) (by omega)
        rw [if_pos (by simp [live])]
        refine ⟨tens, by rintro _ ⟨⟩; exact limits, fun off => ?_⟩
        rcases off with dead | off
        · exact absurd live dead
        · rw [UnitRecord.isOff_iff, test] at off; cases off
      · exact ⟨rfl, by rintro _ ⟨⟩; exact zero, fun _ => rfl⟩

theorem dispatchUnit_sound {opened : Bool} (rising : f.rising) (mem : e ∈ f) (h : e.2.sound opened)
    (restoring : Bool) (p : Profile) (t : Thermal) :
    (dispatchUnit f rotation asked restoring p t e).2.sound opened := by
  obtain ⟨setpoint, within, dead⟩ := composeSetpoint_lawful h
    (participation_emod (f := f) (rotation := rotation) (asked := asked) (e := e))
    (restorationOf_emod restoring p t e.2)
  obtain ⟨g, misses, holds, mode, reported, report, up, down, -, -, -, -, -, baseline⟩ := h
  refine ⟨g, misses, holds, mode, reported, report, up, down, setpoint, participation_emod,
    restorationOf_emod .., fun off => ?_, within, baseline⟩
  have ineligible : e.2.eligible = false := by
    rw [Bool.eq_false_iff, Ne, UnitRecord.eligible_iff]
    rintro ⟨live, -, -, on⟩
    rcases off with dead | off
    · exact dead live
    · exact Bool.false_ne_true (on.symm.trans off)
  exact ⟨dead off, participation_of_weightless rising mem (UnitRecord.weight_of_ineligible ineligible),
    restorationOf_ineligible ineligible⟩

end Shares

/-! ### The law -/

/-- The enrolment lists of the store, the one being written included. -/
def Store.enrolmentSound (x : Store) : Prop :=
  EnrolmentSound x.slot1.enrolment ∧ EnrolmentSound x.slot2.enrolment ∧
    ∀ second p list, x.write = some (.image second p list) → EnrolmentSound list

theorem fleetSound_iff (s : State) : FleetSound s ↔
    s.fleet.lawful s.episodeOpen ∧ s.store.enrolmentSound := by
  constructor
  · rintro ⟨rising, range, sound, one, stored⟩
    exact ⟨⟨rising, range, sound, (Fleet.oneTest_iff rising).mp one⟩, stored⟩
  · rintro ⟨⟨rising, range, sound, one⟩, stored⟩
    exact ⟨rising, range, sound, (Fleet.oneTest_iff rising).mpr one, stored⟩

section FleetLaw

variable {s t : State} {opened : Bool}

theorem Store.enrolmentSound.slot {x : Store} (h : x.enrolmentSound) (slot : ProfileSlot) :
    EnrolmentSound (x.slot slot).enrolment := by
  obtain ⟨one, two, -⟩ := h
  cases slot
  · exact ⟨.nil, nofun⟩
  · exact one
  · exact two

/-- The table an enrolment list builds (R38). -/
theorem Fleet.ofEnrolment_lawful {l : List EnrolEntry} (h : EnrolmentSound l) :
    (Fleet.ofEnrolment l).lawful opened := by
  obtain ⟨rising, entries⟩ := h
  have built : ∀ e ∈ Fleet.ofEnrolment l, ∃ x ∈ l, e = (x.address, UnitRecord.enrolled x.mode x.g) := by
    intro e mem
    obtain ⟨x, entry, rfl⟩ := List.mem_map.mp mem
    exact ⟨x, entry, rfl⟩
  refine ⟨?_, fun e mem => ?_, fun e mem => ?_, fun d mem => ?_⟩
  · unfold Fleet.rising Fleet.ofEnrolment
    rwa [List.map_map]
  · obtain ⟨x, entry, rfl⟩ := built e mem
    obtain ⟨low, high, -⟩ := entries x entry
    exact ⟨low, high⟩
  · obtain ⟨x, entry, rfl⟩ := built e mem
    obtain ⟨-, -, inRange, mode⟩ := entries x entry
    exact UnitRecord.enrolled_sound mode inRange
  · obtain ⟨x, -, rfl⟩ := built d mem
    intro e _ test
    exact absurd test Bool.false_ne_true

/-- The list a table is saved as (R38). -/
theorem Fleet.lawful.saved {f : Fleet} (h : f.lawful opened) : EnrolmentSound (f.map saveEntry) := by
  obtain ⟨rising, range, sound, -⟩ := h
  refine ⟨?_, fun e mem => ?_⟩
  · rw [List.map_map]; exact rising
  · obtain ⟨d, held, rfl⟩ := List.mem_map.mp mem
    obtain ⟨low, high⟩ := range d held
    obtain ⟨g, -, -, mode, -⟩ := sound d held
    exact ⟨low, high, g, mode.enrolled_sound⟩

theorem UnitMove.sound {a : Nat} {u v : UnitRecord} (move : UnitMove s a u v) (h : u.sound opened) :
    v.sound opened := by
  cases move with
  | mode m clearLow idle sound => exact UnitRecord.withMode_sound h sound clearLow
  | test r alone report eligible some_ now duration => exact UnitRecord.startTest_sound h eligible some_ ..
  | report frame carried good => exact UnitRecord.takeReport_sound h good
  | failure stale lost => exact UnitRecord.failVisit_sound h stale lost
  | complete gMin => exact UnitRecord.completeTest_sound h gMin

/-- A unit whose record changes is under test after it only if it was, or if none was. -/
theorem UnitMove.tests {a : Nat} {u v : UnitRecord} (move : UnitMove s a u v) (test : v.inTest = true) :
    u.inTest = true ∨ ∀ e ∈ s.fleet, e.2.inTest = false := by
  cases move with
  | mode m clearLow => rw [UnitRecord.withMode_inTest] at test; cases test
  | test r alone =>
    refine .inr fun e mem => ?_
    have none_ := (Fleet.underTest_isSome_iff s.fleet).not.mp (by simp [alone])
    exact Bool.eq_false_iff.mpr fun test => none_ ⟨e, mem, test⟩
  | report frame carried => rw [UnitRecord.takeReport_inTest] at test; exact .inl test
  | failure stale lost => exact .inl (UnitRecord.failVisit_inTest u stale lost test)
  | complete gMin => exact .inl (UnitRecord.completeTest_inTest u gMin test)

theorem FleetMove.keeps {f : Fleet} (move : FleetMove s f) (h : s.fleet.lawful s.episodeOpen)
    (stored : s.store.enrolmentSound) : f.lawful s.episodeOpen := by
  obtain ⟨rising, range, sound, one⟩ := id h
  cases move with
  | enrol a m g low high vacant mode inRange =>
    exact h.put ⟨low, high⟩ (UnitRecord.enrolled_sound mode inRange) nofun
  | retire a => exact h.sublist List.filter_sublist
  | rebuild slot => exact Fleet.ofEnrolment_lawful (stored.slot slot)
  | unit a u v found move =>
    have mem := Fleet.mem_of_get found
    refine h.put (range _ mem) (move.sound (sound _ mem)) fun test e held tested => ?_
    rcases move.tests test with tested' | none_
    · exact one e held _ mem tested tested'
    · rw [none_ e held] at tested; cases tested
  | headroom => exact h.map (fun _ => rfl) (fun e mem => UnitRecord.withLive_sound (sound e mem) _ _) fun _ => id
  | dispatch rotation asked =>
    exact h.map (fun _ => rfl) (fun e mem => dispatchUnit_sound rising mem (sound e mem) ..) fun _ => id
  | baselines opened =>
    rw [opened] at h sound ⊢
    refine h.map (fun _ => rfl) (fun e mem => UnitRecord.takeBaseline_sound (sound e mem)) fun e => ?_
    unfold UnitRecord.takeBaseline
    split <;> exact id
  | aborts =>
    refine h.map (fun _ => rfl) (fun e mem => UnitRecord.abortTest_sound (sound e mem)) fun e => ?_
    rw [UnitRecord.abortTest_inTest]; nofun

theorem StoreMove.enrolmentSound {x : Store} (move : StoreMove s x) (h : s.fleet.lawful opened)
    (stored : s.store.enrolmentSound) : x.enrolmentSound := by
  obtain ⟨one, two, writing⟩ := stored
  cases move with
  | saveOne | saveTwo => exact ⟨one, two, by rintro _ _ _ ⟨⟩; exact h.saved⟩
  | select => exact ⟨one, two, by rintro _ _ _ ⟨⟩⟩
  | savedOne p list write => exact ⟨writing _ _ _ write, two, by rintro _ _ _ ⟨⟩⟩
  | savedTwo p list write => exact ⟨one, writing _ _ _ write, by rintro _ _ _ ⟨⟩⟩
  | selected => exact ⟨one, two, by rintro _ _ _ ⟨⟩⟩

theorem DeliveryMove.keeps_fleet (move : DeliveryMove s t) (h : FleetSound s) : FleetSound t := by
  obtain ⟨lawful, stored⟩ := (fleetSound_iff s).mp h
  obtain ⟨rising, range, sound, one⟩ := id lawful
  have opens : s.fleet.lawful true := ⟨rising, range, fun e mem => UnitRecord.sound.open_ (sound e mem), one⟩
  refine (fleetSound_iff t).mpr ?_
  cases move with
  | opens | account | delivered => exact ⟨opens, stored⟩
  | closes e opened =>
    exact ⟨lawful.map (fun _ => rfl) (fun e mem => UnitRecord.dropBaseline_sound (sound e mem) _) fun _ => id,
      stored⟩

theorem Move.keeps_fleet (move : Move s t) (h : FleetSound s) : FleetSound t := by
  obtain ⟨lawful, stored⟩ := (fleetSound_iff s).mp h
  cases move with
  | port port => cases port <;> exact h
  | post => rw [State.post_ports]; exact h
  | book _ move => cases move <;> exact h
  | delivery _ move => exact move.keeps_fleet h
  | store x move => exact (fleetSound_iff _).mpr ⟨lawful, move.enrolmentSound lawful stored⟩
  | fleet f move => exact (fleetSound_iff _).mpr ⟨move.keeps lawful stored, stored⟩
  | _ => exact h

theorem Restart.keeps_fleet (restart : Restart s t) (h : FleetSound s) : FleetSound t := by
  obtain ⟨-, stored⟩ := (fleetSound_iff s).mp h
  have cut : s.store.cut.enrolmentSound := ⟨stored.1, stored.2.1, by rintro _ _ _ ⟨⟩⟩
  refine (fleetSound_iff t).mpr ?_
  cases restart with
  | starts straps =>
    obtain ⟨slot, chosen⟩ := s.store.cut.startup_slot
    refine ⟨?_, cut⟩
    unfold State.blocksReset
    dsimp only
    rw [chosen]
    exact Fleet.ofEnrolment_lawful (cut.slot slot)
  | holds => exact ⟨⟨.nil, List.forall_mem_nil _, List.forall_mem_nil _, List.forall_mem_nil _⟩, cut⟩

end FleetLaw

/-- Settles O31: each change of a record keeps R119's law, a test starts only where none runs, and a baseline is
held only while an episode is open. -/
theorem everyStepKeepsTheFleet : Obligations.EveryStepKeepsTheFleet := fun _ _ h done =>
  step_keeps (fun _ _ restart => restart.keeps_fleet) (fun _ _ move => move.keeps_fleet) done h

end Sys2Proof.Machine

/-! PROOFS. The law of the book, the planning array and the marked set (R5, R6, R11, R12, R45 to R50, R55). -/

namespace Sys2Proof.Machine

/-! ### Sums, side by side -/

section Sums

variable (x y z : Sides)

@[simp] theorem Sides.zero_add : Sides.zero.add x = x := by simp [Sides.add, Sides.zero]

theorem Sides.add_assoc : (x.add y).add z = x.add (y.add z) := by simp [Sides.add, Nat.add_assoc]

theorem Sides.add_left_comm : x.add (y.add z) = y.add (x.add z) := by simp [Sides.add, Nat.add_left_comm]

theorem Sides.add_comm : x.add y = y.add x := by simp [Sides.add, Nat.add_comm]

@[simp] theorem Sides.add_sub_self : (x.add y).sub x = y := by simp [Sides.add, Sides.sub]

@[simp] theorem Sides.sum_nil : Sides.sum [] = Sides.zero := rfl

@[simp] theorem Sides.sum_cons (l : List Sides) : Sides.sum (x :: l) = x.add (Sides.sum l) := rfl

theorem Sides.sum_append (l m : List Sides) : Sides.sum (l ++ m) = (Sides.sum l).add (Sides.sum m) := by
  induction l with
  | nil => simp
  | cons x l ih => simp [ih, Sides.add_assoc]

end Sums

/-! ### The committed sums of a row (R47) -/

/-- The committed sums a row for a slot should hold, over a list of records. -/
def rowSums (l : List Commitment) (slot : Nat) : Sides × Sides :=
  (Sides.sum ((l.filter fun c => c.counted && c.covers slot).map Commitment.capacity),
    Sides.sum ((l.filter fun c => c.counted && c.covers slot).map Commitment.requirement))

/-- A row holds the sums of a list of records; one that stands for no slot holds those of any list. -/
def PlanRow.holds (l : List Commitment) (r : PlanRow) : Prop :=
  ∀ slot ∈ r.slot, (r.committed, r.required) = rowSums l slot

section RowSums

variable {l before after : List Commitment} {c : Commitment} {slot : Nat} {r : PlanRow}

/-- A record among others adds its own sums to every slot it covers. -/
theorem rowSums_with (counts : (c.counted && c.covers slot) = true) :
    rowSums (before ++ c :: after) slot = (c.capacity.add (rowSums (before ++ after) slot).1,
      c.requirement.add (rowSums (before ++ after) slot).2) := by
  simp only [rowSums, List.filter_append, List.filter_cons, counts, if_true, List.map_append, List.map_cons,
    Sides.sum_append, Sides.sum_cons]
  rw [Sides.add_left_comm, Sides.add_left_comm (Sides.sum _) c.requirement]

theorem rowSums_beside (uncounted : (c.counted && c.covers slot) = false) :
    rowSums (before ++ c :: after) slot = rowSums (before ++ after) slot := by
  simp [rowSums, uncounted]

theorem rowSums_eq_zero (none_ : ∀ c ∈ l, c.covers slot = false) :
    rowSums l slot = (Sides.zero, Sides.zero) := by
  have empty : (l.filter fun c => c.counted && c.covers slot) = [] :=
    List.filter_eq_nil_iff.mpr fun c mem => by simp [none_ c mem]
  simp [rowSums, empty]

theorem Commitment.coversRow_of_slot (stands : r.slot = some slot) : c.coversRow r = c.covers slot := by
  unfold Commitment.coversRow; rw [stands]

@[simp] theorem PlanRow.commit_slot (c : Commitment) (r : PlanRow) : (r.commit c).slot = r.slot := by
  unfold PlanRow.commit; split <;> rfl

@[simp] theorem PlanRow.uncommit_slot (c : Commitment) (r : PlanRow) : (r.uncommit c).slot = r.slot := by
  unfold PlanRow.uncommit; split <;> rfl

@[simp] theorem PlanRow.refresh_slot (p : Profile) (f : Fleet) (r : PlanRow) :
    (r.refresh p f).slot = r.slot := by unfold PlanRow.refresh; split <;> simp_all

@[simp] theorem PlanRow.refresh_committed (p : Profile) (f : Fleet) (r : PlanRow) :
    (r.refresh p f).committed = r.committed := by unfold PlanRow.refresh; split <;> rfl

@[simp] theorem PlanRow.refresh_required (p : Profile) (f : Fleet) (r : PlanRow) :
    (r.refresh p f).required = r.required := by unfold PlanRow.refresh; split <;> rfl

theorem PlanRow.holds.commit (h : r.holds (before ++ after)) (counted : c.counted = true) :
    (r.commit c).holds (before ++ c :: after) := by
  intro slot stands
  rw [PlanRow.commit_slot] at stands
  have sums := h slot stands
  unfold PlanRow.commit
  rw [Commitment.coversRow_of_slot stands]
  cases covers : c.covers slot with
  | true =>
    rw [if_pos rfl, rowSums_with (by simp [counted, covers]), ← sums]
    exact congrArg₂ Prod.mk (Sides.add_comm ..) (Sides.add_comm ..)
  | false =>
    rw [if_neg (by simp), rowSums_beside (by simp [covers])]
    exact sums

theorem PlanRow.holds.uncommit (h : r.holds (before ++ c :: after))
    (counts : ∀ slot ∈ r.slot, c.covers slot = true → c.counted = true) :
    (r.uncommit c).holds (before ++ after) := by
  intro slot stands
  rw [PlanRow.uncommit_slot] at stands
  have sums := h slot stands
  unfold PlanRow.uncommit
  rw [Commitment.coversRow_of_slot stands]
  cases covers : c.covers slot with
  | true =>
    rw [rowSums_with (by simp [counts slot stands covers, covers]), Prod.mk.injEq] at sums
    rw [if_pos rfl, sums.1, sums.2]
    simp
  | false =>
    rw [rowSums_beside (by simp [covers])] at sums
    rw [if_neg (by simp)]
    exact sums

theorem PlanRow.holds.refresh (h : r.holds l) (p : Profile) (f : Fleet) : (r.refresh p f).holds l := by
  intro slot stands
  rw [PlanRow.refresh_slot] at stands
  rw [PlanRow.refresh_committed, PlanRow.refresh_required]
  exact h slot stands

/-- Records changed in ways that leave their sums at the row's slot. -/
theorem PlanRow.holds.map (h : r.holds l) {g : Commitment → Commitment}
    (capacity : ∀ c, (g c).capacity = c.capacity) (requirement : ∀ c, (g c).requirement = c.requirement)
    (counts : ∀ slot ∈ r.slot, ∀ c ∈ l, ((g c).counted && (g c).covers slot) = (c.counted && c.covers slot)) :
    r.holds (l.map g) := by
  intro slot stands
  have same : (l.map g).filter (fun c => c.counted && c.covers slot)
      = (l.filter fun c => c.counted && c.covers slot).map g := by
    rw [List.filter_map]
    exact congrArg _ (List.filter_congr fun c mem => counts slot stands c mem)
  have sums : rowSums (l.map g) slot = rowSums l slot := by
    simp only [rowSums, same, List.map_map, Function.comp_def, capacity, requirement]
  rw [sums]
  exact h slot stands

end RowSums

/-! ### The rows of the array (R45, R49, R50) -/

theorem mem_planAll {p : Plan} {r : PlanRow} : r ∈ p.all ↔ r ∈ p.rows ∨ p.horizon = some r := by
  simp [Plan.all]

section Rows

variable {plan : Plan} {slot : Nat}

theorem PlanPlaced.mapRows (h : PlanPlaced plan slot) {g : PlanRow → PlanRow} (same : ∀ r, (g r).slot = r.slot) :
    PlanPlaced (plan.mapRows g) slot := by
  obtain ⟨rows, horizon⟩ := h
  unfold PlanPlaced Plan.mapRows
  have slots : PlanRow.slot ∘ g = PlanRow.slot := funext same
  simp only [List.map_map, Option.map_map, slots]
  exact ⟨rows, horizon⟩

theorem PlanRow.form_slot (p : Profile) (f : Fleet) (n : Nat) :
    (PlanRow.form p f n).map PlanRow.slot = if n ≤ maxWord then some (some n) else none := by
  unfold PlanRow.form; split <;> simp

/-- A row that is formed holds no sums. -/
theorem PlanRow.form_some {p : Profile} {f : Fleet} {n : Nat} {r : PlanRow} (formed : PlanRow.form p f n = some r) :
    n ≤ maxWord ∧ r.slot = some n ∧ r.committed = Sides.zero ∧ r.required = Sides.zero := by
  unfold PlanRow.form at formed
  split at formed
  · cases formed
    rename_i exists_
    refine ⟨exists_, ?_, ?_, ?_⟩
    · rw [PlanRow.refresh_slot]
    · rw [PlanRow.refresh_committed]; rfl
    · rw [PlanRow.refresh_required]; rfl
  · cases formed

theorem Plan.build_placed (p : Profile) (f : Fleet) (c : Nat) : PlanPlaced (Plan.build p f c) c := by
  refine ⟨?_, PlanRow.form_slot p f _⟩
  unfold Plan.build
  rw [List.map_filterMap]
  simp only [PlanRow.form_slot]
  rw [← List.filterMap_eq_filter, List.map_filterMap]
  refine List.filterMap_congr fun n _ => ?_
  by_cases inside : n ≤ maxWord <;> simp [inside, Option.guard]

/-- The slots of the rows after the first: those of the next 191 slots that exist (R45). -/
theorem PlanPlaced.later (h : PlanPlaced plan slot) (last : slot ≤ maxWord) :
    (plan.rows.drop 1).map PlanRow.slot
      = ((List.range' (slot + 1) 191).filter fun n => decide (n ≤ maxWord)).map some := by
  rw [List.map_drop, h.1, List.range'_succ, List.filter_cons, if_pos (by simpa using last)]
  rfl

theorem Plan.shift_placed (h : PlanPlaced plan slot) (more : slot < maxWord) (p : Profile) (f : Fleet) :
    PlanPlaced (plan.shift p f (slot + 1)) (slot + 1) := by
  refine ⟨?_, PlanRow.form_slot p f _⟩
  have horizon : (plan.horizon.map (PlanRow.refresh p f)).toList.map PlanRow.slot
      = ([slot + 192].filter fun n => decide (n ≤ maxWord)).map some := by
    rw [← Option.toList_map, Option.map_map]
    have slots : PlanRow.slot ∘ PlanRow.refresh p f = PlanRow.slot := funext (PlanRow.refresh_slot p f)
    rw [slots, h.2, List.filter_singleton]
    by_cases inside : slot + 192 ≤ maxWord <;> simp [inside]
  have whole : List.range' (slot + 1) 192 = List.range' (slot + 1) 191 ++ [slot + 192] := by
    rw [← List.range'_1_concat]
  unfold Plan.shift
  rw [List.map_append, h.later more.le, horizon, ← List.map_append, ← List.filter_append, whole]

/-- A row of the array stands for a slot from the current one on, within the horizon. -/
theorem PlanPlaced.slot_range (h : PlanPlaced plan slot) {r : PlanRow} (mem : r ∈ plan.all) {n : Nat}
    (stands : r.slot = some n) : slot ≤ n ∧ n ≤ slot + 192 := by
  rcases mem_planAll.mp mem with row | horizon
  · have named := List.mem_map_of_mem (f := PlanRow.slot) row
    rw [h.1, stands] at named
    obtain ⟨m, listed, same⟩ := List.mem_map.mp named
    cases same
    have := List.mem_range'_1.mp (List.mem_of_mem_filter listed)
    omega
  · have named := h.2
    rw [horizon, Option.map_some, stands] at named
    split at named
    · cases named; omega
    · cases named

end Rows

end Sys2Proof.Machine

/-! PROOFS. The law of the book, change by change: records leave, are admitted, start and end (R10 to R12, R19). -/

namespace Sys2Proof.Machine

/-! ### The law in its parts -/

/-- The clock's own ranges (R1). -/
def Clock.lawful (k : Clock) : Prop := k.slot ≤ maxWord ∧ k.second ≤ 899 ∧ k.ms ≤ 999

/-- The book by itself (R5, R6). -/
def Book.lawful (b : Book) : Prop :=
  b.records.Pairwise (fun a b => keyLess a.key b.key = true) ∧ (b.records.map Commitment.id).Nodup ∧
    b.records.length ≤ 64 ∧ b.lastId ≤ 65535 ∧
    (∀ n, b.nextSeq = some n → 1 ≤ n ∧ n ≤ maxWord ∧ ∀ c ∈ b.records, c.seq < n) ∧
    ∀ c ∈ b.records, c.wellFormed

/-- The records and the rows stand where the clock says (R9, R11, R12, R45). -/
def timeLawful (k : Clock) (l : List Commitment) (p : Plan) : Prop :=
  (k.set = false → l = [] ∧ ∀ r ∈ p.all, r.slot = none) ∧
    (k.set = true → PlanPlaced p k.slot ∧ ∀ c ∈ l, c.placed k.slot)

/-- The ids of the marked records of a list (R55). -/
def markedIds (l : List Commitment) : List Nat := (l.filter fun c => c.mark != .clear).map Commitment.id

theorem bookSound_iff (s : State) : BookSound s ↔
    s.clock.lawful ∧ s.book.lawful ∧ timeLawful s.clock s.book.records s.plan ∧
      (∀ r ∈ s.plan.all, r.holds s.book.records) ∧ s.marked = markedIds s.book.records := by
  simp only [Clock.lawful, Book.lawful, timeLawful, and_assoc]
  exact Iff.rfl

/-! ### Records that keep their contract -/

/-- What a record is accepted with, its standing, its level and its mark aside. -/
def Commitment.alike (c d : Commitment) : Prop :=
  d.id = c.id ∧ d.seq = c.seq ∧ d.start = c.start ∧ d.stop = c.stop ∧ d.capacity = c.capacity ∧
    d.requirement = c.requirement

section Alike

variable {b : Book} {g : Commitment → Commitment} {c : Commitment}

theorem Commitment.alike.wellFormed {d : Commitment} (h : c.alike d) (sound : c.wellFormed) : d.wellFormed := by
  obtain ⟨id, seq, start, stop, capacity, -⟩ := h
  unfold Commitment.wellFormed
  rwa [id, seq, start, stop, capacity]

theorem Commitment.alike.covers {d : Commitment} (h : c.alike d) (slot : Nat) :
    d.covers slot = c.covers slot := by
  obtain ⟨-, -, start, stop, -⟩ := h
  unfold Commitment.covers
  rw [start, stop]

theorem Commitment.mapLevel_alike (c : Commitment) (f : LevelRecord → LevelRecord) :
    c.alike (c.mapLevel f) ∧ (c.mapLevel f).mark = c.mark ∧ (c.mapLevel f).counted = c.counted ∧
      ∀ slot, (c.mapLevel f).placed slot ↔ c.placed slot := by
  obtain ⟨id, ref, seq, start, stop, snapshot, capacity, requirement, standing, mark⟩ := c
  cases standing <;> exact ⟨⟨rfl, rfl, rfl, rfl, rfl, rfl⟩, rfl, rfl, fun _ => Iff.rfl⟩

theorem Commitment.remark_alike (live planning : List Nat) (c : Commitment) :
    c.alike (c.remark live planning) ∧ (c.remark live planning).counted = c.counted ∧
      ∀ slot, (c.remark live planning).placed slot ↔ c.placed slot := by
  unfold Commitment.remark
  split <;> exact ⟨⟨rfl, rfl, rfl, rfl, rfl, rfl⟩, rfl, fun _ => Iff.rfl⟩

theorem Book.lawful.map (h : b.lawful) (alike : ∀ c : Commitment, c.alike (g c)) :
    Book.lawful { b with records := b.records.map g } := by
  obtain ⟨sorted, ids, few, last, next, sound⟩ := h
  have sameId : Commitment.id ∘ g = Commitment.id := funext fun c => (alike c).1
  have key : ∀ c, (g c).key = c.key := fun c => by
    obtain ⟨-, seq, start, -⟩ := alike c
    unfold Commitment.key; rw [start, seq]
  refine ⟨?_, by rwa [List.map_map, sameId], by simpa using few, last, fun n seq => ?_, fun c mem => ?_⟩
  · simp only [List.pairwise_map, key]
    exact sorted
  · obtain ⟨low, high, above⟩ := next n seq
    refine ⟨low, high, fun c mem => ?_⟩
    obtain ⟨d, held, rfl⟩ := List.mem_map.mp mem
    rw [(alike d).2.1]
    exact above d held
  · obtain ⟨d, held, rfl⟩ := List.mem_map.mp mem
    exact (alike d).wellFormed (sound d held)

theorem Book.lawful.sublist (h : b.lawful) {l : List Commitment} (sub : l.Sublist b.records) :
    Book.lawful { b with records := l } := by
  obtain ⟨sorted, ids, few, last, next, sound⟩ := h
  refine ⟨sorted.sublist sub, ids.sublist (sub.map _), sub.length_le.trans few, last, fun n seq => ?_,
    fun c mem => sound c (sub.subset mem)⟩
  obtain ⟨low, high, above⟩ := next n seq
  exact ⟨low, high, fun c mem => above c (sub.subset mem)⟩

theorem markedIds_map (alike : ∀ c : Commitment, c.alike (g c)) (same : ∀ c, (g c).mark = c.mark) (l : List Commitment) :
    markedIds (l.map g) = markedIds l := by
  unfold markedIds
  have marked : (fun c : Commitment => c.mark != .clear) ∘ g = fun c => c.mark != .clear :=
    funext fun c => by simp [same c]
  have ids : Commitment.id ∘ g = Commitment.id := funext fun c => (alike c).1
  rw [List.filter_map, marked, List.map_map, ids]

end Alike

/-! ### Records that leave (R11, R19, R47, R55) -/

theorem State.without_cons (s : State) (c : Commitment) (l : List Commitment) :
    s.without (c :: l) = (s.without [c]).without l := by
  have both : ∀ i : Nat, (!(l.map Commitment.id).contains i && !([c].map Commitment.id).contains i)
      = !((c :: l).map Commitment.id).contains i := by
    intro i
    simp only [List.map_cons, List.map_nil, List.contains_cons, List.contains_nil, Bool.or_false, Bool.not_or,
      Bool.and_comm]
  unfold State.without Book.less State.withBook
  simp only [List.filter_filter, List.foldl_cons, List.foldl_nil, both]

/-- In a list of distinct ids, the records less one are those before it and those after it. -/
theorem filter_ne_id {c : Commitment} {before after : List Commitment}
    (ids : ((before ++ c :: after).map Commitment.id).Nodup) :
    ((before ++ c :: after).filter fun d => !([c].map Commitment.id).contains d.id) = before ++ after := by
  rw [List.map_append, List.map_cons, List.nodup_middle, List.nodup_cons, ← List.map_append] at ids
  have others : ∀ d ∈ before ++ after, (!([c].map Commitment.id).contains d.id) = true := by
    intro d mem
    have differ : d.id ≠ c.id := fun same => ids.1 (same ▸ List.mem_map_of_mem mem)
    simpa using differ
  rw [List.filter_append, List.filter_cons, if_neg (by simp), ← List.filter_append]
  exact List.filter_eq_self.mpr others

theorem BookSound.without_one {s : State} (h : BookSound s) {c : Commitment} (mem : c ∈ s.book.records) :
    BookSound (s.without [c]) := by
  obtain ⟨clock, book, time, sums, marked⟩ := (bookSound_iff s).mp h
  obtain ⟨before, after, whole⟩ := List.append_of_mem mem
  have records : (s.book.less [c]).records = before ++ after := by
    unfold Book.less
    dsimp only
    rw [whole]
    exact filter_ne_id (whole ▸ book.2.1)
  have sub : (before ++ after).Sublist s.book.records := by
    rw [whole]; exact (List.sublist_cons_self c after).append_left before
  have set : s.clock.set = true := by
    by_contra unset
    rw [(time.1 (by simpa using unset)).1] at mem
    cases mem
  obtain ⟨rows, placed⟩ := time.2 set
  refine (bookSound_iff _).mpr ⟨clock, ?_, ⟨fun unset => ?_, fun _ => ⟨?_, fun d held => ?_⟩⟩, ?_, ?_⟩
  · have less := book.sublist sub
    rw [← records] at less
    exact less
  · exact absurd (set.symm.trans unset) (by decide)
  · exact rows.mapRows (PlanRow.uncommit_slot c)
  · exact placed d (List.mem_of_mem_filter held)
  · intro r row
    have row : r ∈ (s.plan.mapRows (PlanRow.uncommit c)).all := row
    rw [Plan.mapRows_all] at row
    obtain ⟨q, held, rfl⟩ := List.mem_map.mp row
    have counts : ∀ slot ∈ q.slot, c.covers slot = true → c.counted = true := by
      intro slot stands covers
      have current := (rows.slot_range held stands).1
      have place := placed c mem
      unfold Commitment.placed at place
      unfold Commitment.counted Commitment.isOverrun
      cases standing : c.standing with
      | overrun l =>
        rw [standing] at place
        unfold Commitment.covers at covers
        simp only [decide_eq_true_eq] at covers
        dsimp only at place
        omega
      | pending | inForce => rfl
    have before' := sums q held
    rw [whole] at before'
    change PlanRow.holds (s.book.less [c]).records _
    rw [records]
    exact before'.uncommit counts
  · change (s.marked.filter _) = markedIds (s.book.less [c]).records
    rw [marked]
    unfold markedIds Book.less
    rw [List.filter_map, List.filter_filter, List.filter_filter]
    exact congrArg _ (List.filter_congr fun _ _ => Bool.and_comm _ _)

theorem BookSound.without {l : List Commitment} {s : State} (h : BookSound s)
    (sub : l.Sublist s.book.records) : BookSound (s.without l) := by
  induction l generalizing s with
  | nil => rwa [State.without_nil]
  | cons c l ih =>
    rw [State.without_cons]
    refine ih (h.without_one (sub.subset List.mem_cons_self)) ?_
    have ids := ((bookSound_iff s).mp h).2.1.2.1.sublist (sub.map Commitment.id)
    have rest := sub.filter fun d => !([c].map Commitment.id).contains d.id
    rwa [show c :: l = [] ++ c :: l from rfl, filter_ne_id ids] at rest

/-! ### A record is admitted (R6, R9, R10) -/

/-- What the checks of R9 establish. -/
theorem awardChecks_ok {s : State} {r : AwardRecord} {seq : Nat} {snapshot : Snapshot}
    (passed : awardChecks s r = .ok (seq, snapshot)) :
    s.clock.set = true ∧ s.clock.slot < r.start ∧ r.stop ≤ s.clock.slot + 192 ∧ awardShape r = true ∧
      awardSnapshot s.profile r = some snapshot ∧ s.book.nextSeq = some seq ∧ s.book.records.length < 64 ∧
      admissionTest s.plan (s.profile.nat .margin) r.start r.stop (r.capacity.map floor10)
        (energyRequirement (r.capacity.map floor10) snapshot) = none := by
  unfold awardChecks at passed
  split at passed
  · cases passed
  · rename_i set
    split at passed
    · cases passed
    · split at passed
      · cases passed
      · split at passed
        · cases passed
        · rename_i shape
          split at passed
          · cases passed
          · split at passed
            · cases passed
            · split at passed
              · cases passed
              · dsimp only at passed
                split at passed
                · cases passed
                · cases passed
                  exact ⟨by simpa using set, by omega, by omega, by simpa using shape, ‹_›, ‹_›, by omega, ‹_›⟩

theorem candidateId_pos (last j : Nat) : 1 ≤ candidateId last j := by unfold candidateId; omega

section Admission

variable {s : State} {r : AwardRecord} {seq : Nat} {snapshot : Snapshot}

/-- The id assigned is free and in its range (R6). -/
theorem State.admitted_id (book : s.book.lawful) (room : s.book.records.length < 64) :
    1 ≤ (s.admitted r seq snapshot).id ∧ (s.admitted r seq snapshot).id ≤ 65535 ∧
      (s.admitted r seq snapshot).id ∉ s.book.records.map Commitment.id := by
  obtain ⟨-, -, -, last, -⟩ := book
  obtain ⟨k, assigned, free, -⟩ := freeId_free (used := s.book.records.map Commitment.id)
    (by rw [List.length_map]; omega) last
  have id : (s.admitted r seq snapshot).id = candidateId s.book.lastId k := assigned
  rw [id]
  exact ⟨candidateId_pos _ _, candidateId_le _ _, free⟩

theorem BookSound.award (h : BookSound s) (passed : awardChecks s r = .ok (seq, snapshot)) :
    BookSound (s.withBook ⟨insertByKey (s.admitted r seq snapshot) s.book.records, nextSequence seq,
      (s.admitted r seq snapshot).id⟩ (s.plan.mapRows (PlanRow.commit (s.admitted r seq snapshot))) s.marked) := by
  obtain ⟨clock, book, time, sums, marked⟩ := (bookSound_iff s).mp h
  obtain ⟨set, early, near, shape, -, nextSeq, room, -⟩ := awardChecks_ok passed
  obtain ⟨rows, placed⟩ := time.2 set
  obtain ⟨positive, small, free⟩ := State.admitted_id (r := r) (seq := seq) (snapshot := snapshot) book room
  obtain ⟨sorted, ids, -, -, next, sound⟩ := id book
  obtain ⟨first, last, latest⟩ := next seq nextSeq
  have fits := (awardShape_iff r).mp shape
  generalize entered : s.admitted r seq snapshot = c at positive small free ⊢
  have start : c.start = r.start := by rw [← entered]; rfl
  have stop : c.stop = r.stop := by rw [← entered]; rfl
  have number : c.seq = seq := by rw [← entered]; rfl
  have pending : c.standing = .pending := by rw [← entered]; rfl
  have clear : c.mark = .clear := by rw [← entered]; rfl
  have capacity : c.capacity = r.capacity.map floor10 := by rw [← entered]; rfl
  have own : c.wellFormed := by
    refine ⟨positive, small, number ▸ first, number ▸ last, by rw [start, stop]; exact fits.1, ?_⟩
    rw [capacity]
    simp only [Sides.map, floor10]
    omega
  obtain ⟨before, after, whole, inserted, lower, higher⟩ :=
    insertByKey_latest sorted (c := c) (number ▸ latest)
  have entry : ∀ d, d ∈ insertByKey c s.book.records ↔ d = c ∨ d ∈ s.book.records := by
    intro d
    rw [inserted, whole]
    simp only [List.mem_append, List.mem_cons]
    tauto
  refine (bookSound_iff _).mpr ⟨clock, ⟨?_, ?_, ?_, small, fun n seq' => ?_, fun d mem => ?_⟩,
    ⟨fun unset => ?_, fun _ => ⟨rows.mapRows (PlanRow.commit_slot c), fun d mem => ?_⟩⟩, fun q row => ?_, ?_⟩
  · change (insertByKey c s.book.records).Pairwise _
    rw [inserted, List.pairwise_append, List.pairwise_cons]
    rw [whole, List.pairwise_append] at sorted
    refine ⟨sorted.1, ⟨fun d mem => (keyLess_iff _ _).mpr (higher d mem), sorted.2.1⟩, fun d mem e mem' => ?_⟩
    rcases List.mem_cons.mp mem' with rfl | mem'
    · exact (keyLess_iff _ _).mpr (lower d mem)
    · exact sorted.2.2 d mem e mem'
  · change ((insertByKey c s.book.records).map Commitment.id).Nodup
    rw [whole, List.map_append] at ids free
    rw [inserted, List.map_append, List.map_cons, List.nodup_middle, List.nodup_cons]
    exact ⟨free, ids⟩
  · have length : (insertByKey c s.book.records).length = s.book.records.length + 1 := by
      rw [inserted, whole]; simp only [List.length_append, List.length_cons]; omega
    change (insertByKey c s.book.records).length ≤ 64
    omega
  · have seq' : nextSequence seq = some n := seq'
    unfold nextSequence at seq'
    split at seq' <;> cases seq'
    refine ⟨by omega, by omega, fun d mem => ?_⟩
    rcases (entry d).mp mem with rfl | held
    · omega
    · have := latest d held; omega
  · rcases (entry d).mp mem with rfl | held
    · exact own
    · exact sound d held
  · exact absurd (set.symm.trans unset) (by decide)
  · rcases (entry d).mp mem with rfl | held
    · unfold Commitment.placed
      rw [pending]
      change s.clock.slot < d.start ∧ d.stop ≤ s.clock.slot + 192
      omega
    · exact placed d held
  · have row : q ∈ (s.plan.mapRows (PlanRow.commit c)).all := row
    rw [Plan.mapRows_all] at row
    obtain ⟨q, entry', rfl⟩ := List.mem_map.mp row
    have held := sums q entry'
    rw [whole] at held
    change PlanRow.holds (insertByKey c s.book.records) _
    rw [inserted]
    exact held.commit (by simp [Commitment.counted, Commitment.isOverrun, pending])
  · change s.marked = markedIds (insertByKey c s.book.records)
    rw [inserted, marked, whole]
    simp [markedIds, clear]

end Admission

/-! ### A boundary (R11, R12, R49) -/

section Boundary

variable {n slot : Nat} {c : Commitment}

/-- A record at a boundary keeps its contract and its mark. -/
theorem Commitment.atBoundary_alike (n : Nat) (c : Commitment) :
    c.alike ((c.endOrStay n).beginOrStay n) ∧ ((c.endOrStay n).beginOrStay n).mark = c.mark := by
  have begins (d : Commitment) : d.alike (d.beginOrStay n) ∧ (d.beginOrStay n).mark = d.mark := by
    unfold Commitment.beginOrStay; split <;> exact ⟨⟨rfl, rfl, rfl, rfl, rfl, rfl⟩, rfl⟩
  unfold Commitment.endOrStay Commitment.overrun
  split
  · split <;> exact begins _
  · exact begins _

/-- What becomes of a record at a boundary into the next slot, where it stood as its state says. -/
theorem Commitment.atBoundary_placed (place : c.placed slot) (sound : c.wellFormed)
    (stays : c.expired (slot + 1) = true → c.inPulse = true) :
    ((c.endOrStay (slot + 1)).beginOrStay (slot + 1)).placed (slot + 1) ∧
      ∀ n, slot < n → (((c.endOrStay (slot + 1)).beginOrStay (slot + 1)).counted &&
        ((c.endOrStay (slot + 1)).beginOrStay (slot + 1)).covers n) = (c.counted && c.covers n) := by
  obtain ⟨-, -, -, -, ordered, -⟩ := sound
  have covers := fun n => (Commitment.atBoundary_alike (slot + 1) c).1.covers n
  cases standing : c.standing with
  | pending =>
    have still : c.endOrStay (slot + 1) = c := by
      simp [Commitment.endOrStay, Commitment.expired, standing]
    have counted : c.counted = true := by simp [Commitment.counted, Commitment.isOverrun, standing]
    rw [still] at covers ⊢
    simp only [Commitment.placed, standing] at place
    unfold Commitment.beginOrStay at covers ⊢
    split
    · rename_i due
      rw [if_pos due] at covers
      simp only [Commitment.due, Bool.and_eq_true, beq_iff_eq] at due
      have start : c.start = slot + 1 := due.2
      refine ⟨?_, fun n _ => by rw [covers n, counted]; rfl⟩
      change c.start ≤ slot + 1 ∧ slot + 1 ≤ c.stop ∧ c.stop ≤ slot + 1 + 192
      omega
    · rename_i later
      have later : c.start ≠ slot + 1 := by
        simpa [Commitment.due, Commitment.isPending, standing] using later
      refine ⟨?_, fun n _ => rfl⟩
      simp only [Commitment.placed, standing]
      omega
  | inForce l =>
    have counted : c.counted = true := by simp [Commitment.counted, Commitment.isOverrun, standing]
    simp only [Commitment.placed, standing] at place
    by_cases ends : c.stop < slot + 1
    · have expired : c.expired (slot + 1) = true := by simp [Commitment.expired, standing, ends]
      have turned : (c.endOrStay (slot + 1)).beginOrStay (slot + 1) = { c with standing := .overrun l } := by
        simp [Commitment.endOrStay, expired, stays expired, Commitment.overrun, standing,
          Commitment.beginOrStay, Commitment.due, Commitment.isPending]
      rw [turned] at covers ⊢
      refine ⟨ends, fun n after => ?_⟩
      have uncovered : c.covers n = false := by simp [Commitment.covers]; omega
      rw [covers n, uncovered, Bool.and_false, Bool.and_false]
    · have same : (c.endOrStay (slot + 1)).beginOrStay (slot + 1) = c := by
        simp [Commitment.endOrStay, Commitment.expired, standing, ends, Commitment.beginOrStay,
          Commitment.due, Commitment.isPending]
      rw [same]
      refine ⟨?_, fun _ _ => rfl⟩
      simp only [Commitment.placed, standing]
      omega
  | overrun l =>
    have same : (c.endOrStay (slot + 1)).beginOrStay (slot + 1) = c := by
      simp [Commitment.endOrStay, Commitment.expired, standing, Commitment.beginOrStay,
        Commitment.due, Commitment.isPending]
    rw [same]
    refine ⟨?_, fun _ _ => rfl⟩
    simp only [Commitment.placed, standing] at place ⊢
    omega

end Boundary

/-- Every record that leaves at a boundary is one of the book's. -/
theorem Book.ended_sublist (b : Book) (n : Nat) : (b.ended n).Sublist b.records :=
  List.filter_sublist.trans List.filter_sublist

/-- A record that stays past its end at a boundary is in its pulse (R11). -/
theorem Book.less_ended_inPulse {b : Book} {n : Nat} {c : Commitment} (mem : c ∈ (b.less (b.ended n)).records)
    (expired : c.expired n = true) : c.inPulse = true := by
  obtain ⟨held, stays⟩ := List.mem_filter.mp mem
  by_contra idle
  have leaves : c ∈ b.ended n :=
    List.mem_filter.mpr ⟨List.mem_filter.mpr ⟨held, expired⟩, by simpa using idle⟩
  have named : c.id ∈ (b.ended n).map Commitment.id := List.mem_map_of_mem leaves
  rw [List.contains_iff_mem.mpr named] at stays
  cases stays

theorem BookSound.boundary {s : State} (h : BookSound s) (set : s.clock.set = true)
    (more : s.clock.slot < maxWord) :
    BookSound ((s.settled (s.clock.slot + 1)).setClock (s.clock.slot + 1) 0) := by
  have left := h.without (s.book.ended_sublist (s.clock.slot + 1))
  obtain ⟨-, book, time, sums, marked⟩ := (bookSound_iff _).mp left
  obtain ⟨rows, placed⟩ := time.2 set
  obtain ⟨-, -, -, -, -, sound⟩ := id book
  have stays : ∀ c ∈ (s.book.less (s.book.ended (s.clock.slot + 1))).records,
      c.expired (s.clock.slot + 1) = true → c.inPulse = true := fun c mem => Book.less_ended_inPulse mem
  have alike := fun c => (Commitment.atBoundary_alike (s.clock.slot + 1) c).1
  refine (bookSound_iff _).mpr ⟨⟨by exact more, Nat.zero_le _, Nat.zero_le _⟩, book.map alike,
    ⟨fun unset => (by cases unset), fun _ => ⟨Plan.shift_placed rows more _ _, fun d mem => ?_⟩⟩,
    fun r row => ?_, ?_⟩
  · obtain ⟨c, held, rfl⟩ := List.mem_map.mp mem
    exact (Commitment.atBoundary_placed (placed c held) (sound c held) (stays c held)).1
  · have kept : ∀ q ∈ (s.without (s.book.ended (s.clock.slot + 1))).plan.all,
        (∀ n ∈ q.slot, s.clock.slot < n) → q.holds (s.book.settled (s.clock.slot + 1)).records := by
      intro q mem later
      refine (sums q mem).map (fun c => (alike c).2.2.2.2.1) (fun c => (alike c).2.2.2.2.2) fun n stands c held => ?_
      exact (Commitment.atBoundary_placed (placed c held) (sound c held) (stays c held)).2 n (later n stands)
    rcases mem_planAll.mp row with array | horizon
    · rcases List.mem_append.mp array with old | carried
      · refine kept r (mem_planAll.mpr (.inl (List.mem_of_mem_drop old))) fun n stands => ?_
        have named := List.mem_map_of_mem (f := PlanRow.slot) old
        rw [rows.later more.le, stands] at named
        obtain ⟨m, listed, same⟩ := List.mem_map.mp named
        cases same
        exact (List.mem_range'_1.mp (List.mem_of_mem_filter listed)).1
      · obtain ⟨q, held, rfl⟩ := Option.map_eq_some_iff.mp (Option.mem_toList.mp carried)
        refine PlanRow.holds.refresh (kept q (mem_planAll.mpr (.inr held)) fun n stands => ?_) _ _
        have named := rows.2
        rw [held, Option.map_some, stands] at named
        split at named
        · cases named
          change s.clock.slot < s.clock.slot + 192
          omega
        · cases named
    · obtain ⟨-, stands, committed, required⟩ := PlanRow.form_some horizon
      intro n held
      rw [stands] at held
      cases held
      rw [committed, required, rowSums_eq_zero]
      intro d mem
      obtain ⟨c, held, rfl⟩ := List.mem_map.mp mem
      rw [(alike c).covers]
      have place := placed c held
      change c.placed s.clock.slot at place
      unfold Commitment.placed at place
      unfold Commitment.covers
      cases standing : c.standing <;> rw [standing] at place <;> simp only [decide_eq_false_iff_not] <;> omega
  · refine marked.trans (markedIds_map alike ?_ _).symm
    exact fun c => (Commitment.atBoundary_alike (s.clock.slot + 1) c).2

/-! ### The law -/

section BookLaw

variable {s t : State}

theorem BookMove.keeps_book (move : BookMove s t) (h : BookSound s) : BookSound t := by
  obtain ⟨clock, book, time, sums, marked⟩ := (bookSound_iff s).mp h
  cases move with
  | second n set inSlot =>
    obtain ⟨slots, seconds, -⟩ := clock
    refine (bookSound_iff _).mpr ⟨⟨slots, by change n ≤ 899; omega, Nat.zero_le _⟩, book,
      ⟨fun unset => (by cases unset), fun _ => time.2 set⟩, sums, marked⟩
  | first slot n unset slots inSlot =>
    have empty := (time.1 unset).1
    refine (bookSound_iff _).mpr ⟨⟨slots, inSlot, Nat.zero_le _⟩, book,
      ⟨fun unset => (by cases unset), fun _ => ⟨Plan.build_placed _ _ _, fun c mem => ?_⟩⟩, fun r row => ?_,
      marked⟩
    · have mem : c ∈ s.book.records := mem
      rw [empty] at mem
      cases mem
    · have formed : ∃ m, PlanRow.form s.profile s.fleet m = some r := by
        rcases mem_planAll.mp row with array | horizon
        · obtain ⟨m, -, formed⟩ := List.mem_filterMap.mp array
          exact ⟨m, formed⟩
        · exact ⟨_, horizon⟩
      obtain ⟨m, formed⟩ := formed
      obtain ⟨-, -, committed, required⟩ := PlanRow.form_some formed
      intro slot _
      change _ = rowSums s.book.records slot
      rw [committed, required, empty]
      rfl
  | boundary set more => exact h.boundary set more
  | award r seq snapshot passed => exact h.award passed
  | leave l sub => exact h.without sub
  | levels g move =>
    have alike := fun c : Commitment => (c.mapLevel_alike (g c)).1
    refine (bookSound_iff _).mpr ⟨clock, book.map alike, ⟨fun unset => ?_, fun set => ?_⟩, fun r row => ?_, ?_⟩
    · obtain ⟨empty, rows⟩ := time.1 unset
      exact ⟨by change s.book.records.map _ = []; rw [empty]; rfl, rows⟩
    · obtain ⟨rows, placed⟩ := time.2 set
      refine ⟨rows, fun d mem => ?_⟩
      obtain ⟨c, held, rfl⟩ := List.mem_map.mp mem
      exact ((c.mapLevel_alike (g c)).2.2.2 _).mpr (placed c held)
    · refine (sums r row).map (fun c => (alike c).2.2.2.2.1) (fun c => (alike c).2.2.2.2.2) fun n _ c _ => ?_
      rw [(alike c).covers, (c.mapLevel_alike (g c)).2.2.1]
    · exact marked.trans (markedIds_map alike (fun c => (c.mapLevel_alike (g c)).2.1) _).symm
  | refresh =>
    refine (bookSound_iff _).mpr ⟨clock, book, ⟨fun unset => ?_, fun set => ?_⟩, fun r row => ?_, marked⟩
    · obtain ⟨empty, rows⟩ := time.1 unset
      refine ⟨empty, fun r row => ?_⟩
      have row : r ∈ (s.plan.mapRows (PlanRow.refresh s.profile s.fleet)).all := row
      rw [Plan.mapRows_all] at row
      obtain ⟨q, held, rfl⟩ := List.mem_map.mp row
      rw [PlanRow.refresh_slot]
      exact rows q held
    · exact ⟨(time.2 set).1.mapRows (PlanRow.refresh_slot _ _), (time.2 set).2⟩
    · have row : r ∈ (s.plan.mapRows (PlanRow.refresh s.profile s.fleet)).all := row
      rw [Plan.mapRows_all] at row
      obtain ⟨q, held, rfl⟩ := List.mem_map.mp row
      exact (sums q held).refresh _ _
  | marks live planning a =>
    have alike := fun c : Commitment => (c.remark_alike live planning).1
    refine (bookSound_iff _).mpr ⟨clock, book.map alike, ⟨fun unset => ?_, fun set => ?_⟩, fun r row => ?_, rfl⟩
    · obtain ⟨empty, rows⟩ := time.1 unset
      exact ⟨by change s.book.records.map _ = []; rw [empty]; rfl, rows⟩
    · obtain ⟨rows, placed⟩ := time.2 set
      refine ⟨rows, fun d mem => ?_⟩
      obtain ⟨c, held, rfl⟩ := List.mem_map.mp mem
      exact ((c.remark_alike live planning).2.2 _).mpr (placed c held)
    · refine (sums r row).map (fun c => (alike c).2.2.2.2.1) (fun c => (alike c).2.2.2.2.2) fun n _ c _ => ?_
      rw [(alike c).covers, (c.remark_alike live planning).2.1]

theorem Move.keeps_book (move : Move s t) (h : BookSound s) : BookSound t := by
  cases move with
  | tick time ms counter phase =>
    obtain ⟨⟨slots, seconds, millis⟩, rest⟩ := (bookSound_iff s).mp h
    exact (bookSound_iff _).mpr ⟨⟨slots, seconds, phase.elim id (· ▸ millis)⟩, rest⟩
  | port port => cases port <;> exact h
  | post => rw [State.post_ports]; exact h
  | book _ move => exact move.keeps_book h
  | delivery _ move => cases move <;> exact h
  | _ => exact h

/-- An UNSET clock over an empty book, the rows standing for no slot. -/
theorem bookSound_of_initial (clock : t.clock = .initial) (book : t.book = .initial) (plan : t.plan = .initial)
    (marked : t.marked = []) : BookSound t := by
  have rows : ∀ r ∈ Plan.initial.all, r = PlanRow.blank := by
    intro r mem
    rcases mem_planAll.mp mem with array | horizon
    · exact List.eq_of_mem_replicate array
    · cases horizon; rfl
  rw [bookSound_iff, clock, book, plan, marked]
  refine ⟨⟨Nat.zero_le _, Nat.zero_le _, Nat.zero_le _⟩, ⟨.nil, .nil, Nat.zero_le _, Nat.zero_le _, ?_, ?_⟩,
    ⟨fun _ => ⟨rfl, fun r mem => by rw [rows r mem]; rfl⟩, fun set => (by cases set)⟩, fun r mem => ?_, rfl⟩
  · rintro n ⟨⟩
    exact ⟨le_rfl, by decide, List.forall_mem_nil _⟩
  · exact List.forall_mem_nil _
  · rw [rows r mem]
    intro slot stands
    cases stands

theorem Restart.keeps_book (restart : Restart s t) : BookSound t := by
  cases restart <;> exact bookSound_of_initial rfl rfl rfl rfl

end BookLaw

/-- Settles O26: an admission and a leaving move the sums of exactly the rows covered; at a boundary no row that
stays is covered by a record that ends, and no record reaches the new horizon row. -/
theorem everyStepKeepsTheBook : Obligations.EveryStepKeepsTheBook := fun _ _ h done =>
  step_keeps (fun _ _ restart _ => restart.keeps_book) (fun _ _ move => move.keeps_book) done h

end Sys2Proof.Machine

/-! PROOFS. The Slot Clock: TIME-SYNC (R3, R4, R13), the boundary (R2, R11, R12, R49) and the second (R1). -/

namespace Sys2Proof.Machine

/-! ### Rows formed and refreshed (R46, R49, R50) -/

theorem PlanRow.refresh_refresh (p : Profile) (f : Fleet) (r : PlanRow) :
    (r.refresh p f).refresh p f = r.refresh p f := by
  obtain ⟨slot, power, energy, committed, required⟩ := r
  cases slot <;> rfl

/-- A row that is formed has its fleet part afresh. -/
theorem PlanRow.form_refreshed {p : Profile} {f : Fleet} {n : Nat} {r : PlanRow}
    (formed : PlanRow.form p f n = some r) : r = r.refresh p f := by
  unfold PlanRow.form at formed
  split at formed
  · cases formed
    exact (PlanRow.refresh_refresh p f _).symm
  · cases formed

theorem Plan.build_formed {p : Profile} {f : Fleet} {c : Nat} {r : PlanRow} (mem : r ∈ (Plan.build p f c).all) :
    ∃ m, PlanRow.form p f m = some r := by
  rcases mem_planAll.mp mem with array | horizon
  · obtain ⟨m, -, formed⟩ := List.mem_filterMap.mp array
    exact ⟨m, formed⟩
  · exact ⟨_, horizon⟩

/-! ### The boundary and the request in service -/

section InService

variable (s : State) (port : Port) (kind : RequestKind) (tag : Byte)

@[simp] theorem State.heard_enter_clock : ((s.heard port).enter port kind tag).clock = s.clock := by
  cases port <;> rfl

theorem State.setClock_heard_enter (slot second : Nat) :
    ((s.heard port).enter port kind tag).setClock slot second
      = ((s.setClock slot second).heard port).enter port kind tag := by cases port <;> rfl

theorem State.settled_heard_enter (n : Nat) :
    ((s.heard port).enter port kind tag).settled n = ((s.settled n).heard port).enter port kind tag := by
  cases port <;> rfl

/-- A boundary takes no notice of the request in service. -/
theorem State.passBoundary_heard_enter :
    ((s.heard port).enter port kind tag).passBoundary = (s.passBoundary.heard port).enter port kind tag := by
  by_cases advances : s.clock.set = true ∧ s.clock.slot < maxWord
  · rw [State.passBoundary_eq advances.1 advances.2, State.passBoundary_eq (by simpa using advances.1)
      (by simpa using advances.2), State.boundary_eq, State.boundary_eq, State.heard_enter_clock,
      State.heard_enter_book, State.settled_heard_enter, State.postIf_heard_enter, State.setClock_heard_enter]
  · unfold State.passBoundary
    rw [State.heard_enter_clock]
    split
    · rfl
    · rw [if_pos (by simp_all), if_pos (by simp_all), State.setClock_heard_enter]

theorem State.passBoundary_port_service : (s.passBoundary.port port).service = (s.port port).service := by
  by_cases advances : s.clock.set = true ∧ s.clock.slot < maxWord
  · rw [State.passBoundary_eq advances.1 advances.2, State.boundary_eq, ← State.postIf_setClock,
      State.postIf_port_service]
    cases port <;> rfl
  · unfold State.passBoundary
    split
    · rfl
    · rw [if_pos (by simp_all)]; cases port <;> rfl

theorem State.passBoundaries_heard_enter (k : Nat) :
    State.passBoundary^[k] ((s.heard port).enter port kind tag)
      = ((State.passBoundary^[k] s).heard port).enter port kind tag := by
  induction k with
  | zero => rfl
  | succ k ih => rw [Function.iterate_succ_apply', Function.iterate_succ_apply', ih, State.passBoundary_heard_enter]

theorem State.passBoundaries_port_service (k : Nat) :
    ((State.passBoundary^[k] s).port port).service = (s.port port).service := by
  induction k with
  | zero => rfl
  | succ k ih => rw [Function.iterate_succ_apply', State.passBoundary_port_service, ih]

end InService

theorem runAll_boundaries {s : State} (run : s.running = true) (k : Nat) :
    runAll (List.replicate k .slotBoundary) s = .next (State.passBoundary^[k] s) := by
  induction k generalizing s with
  | zero => rfl
  | succ k ih =>
    have next : exec .slotBoundary s = .next s.passBoundary := whenRunning_running _ run
    rw [List.replicate_succ, runAll, next]
    exact ih ((moves_passBoundary run).running.trans run)

/-! ### TIME-SYNC (R3, R4, R13) -/

section TimeSync

variable {s : State} {body : List Byte}

/-- The answer to a TIME-SYNC in range, by the clock held. -/
theorem answerTimeSync_set (seconds : field body 4 2 ≤ 899) (slots : field body 0 4 ≤ 4294967102)
    (set : s.clock.set = true) (later : s.clock.slot ≤ field body 0 4) :
    answerTimeSync body s = ((State.passBoundary^[field body 0 4 - s.clock.slot] s).setClock
      (field body 0 4) (field body 4 2), .done (be 4 (field body 0 4) ++ be 2 (field body 4 2))) := by
  have last : 4294967102 ≤ maxWord := by decide
  unfold answerTimeSync
  dsimp only
  rw [if_neg (by unfold lastSyncSlot; omega), if_neg (by simp [set]), if_neg (by omega),
    State.boundaries_eq _ _ set (by omega)]

end TimeSync

/-- Settles O19: the clauses of TIME-SYNC's answer; a jump is its boundaries, each of them the command's. -/
theorem timeSyncSetsTheClock : Obligations.TimeSyncSetsTheClock := by
  refine ⟨fun s tag body serves => ⟨fun bad => ?_, fun seconds slots unset => ?_, fun seconds slots set same => ?_,
    fun seconds slots set earlier => ?_⟩, fun s tag body serves seconds slots set later => ?_⟩
  · apply request_refused serves serves.idle
    unfold answerTimeSync
    exact if_pos (by unfold lastSyncSlot; omega)
  · refine ⟨Plan.build s.profile s.fleet (field body 0 4), Plan.build_placed _ _ _, fun r mem => ?_, ?_⟩
    · obtain ⟨m, formed⟩ := Plan.build_formed mem
      obtain ⟨-, -, committed, required⟩ := PlanRow.form_some formed
      exact ⟨committed, required, PlanRow.form_refreshed formed⟩
    · refine request_answered serves ?_ ?_
      · rw [State.post_port_service]
        exact serves.idle
      · unfold answerTimeSync
        dsimp only
        rw [if_neg (by unfold lastSyncSlot; omega), if_pos (by simp [unset]), ← State.post_heard_enter]
        rfl
  · refine request_answered serves (t := s.setClock s.clock.slot (field body 4 2)) serves.idle ?_
    have here := answerTimeSync_set (s := (s.heard .operator).enter .operator .timeSync tag) seconds slots
      (by simpa using set) (by simp [same])
    rw [here, State.heard_enter_clock, same, Nat.sub_self]
    rfl
  · apply request_refused serves serves.idle
    unfold answerTimeSync
    dsimp only
    rw [if_neg (by unfold lastSyncSlot; omega), State.heard_enter_clock, if_neg (by simp [set]), if_pos earlier]
  · refine ⟨_, runAll_boundaries serves.1 _, ?_⟩
    refine request_answered serves (t := (State.passBoundary^[field body 0 4 - s.clock.slot] s).setClock
      (field body 0 4) (field body 4 2)) ?_ ?_
    · exact (State.passBoundaries_port_service s .operator _).trans serves.idle
    · rw [answerTimeSync_set seconds slots (by simpa using set) (by simpa using later.le),
        State.heard_enter_clock, State.passBoundaries_heard_enter, State.setClock_heard_enter]

/-! ### The records at a boundary (R11, R12) -/

/-- What becomes of one record at a boundary into slot `n`; none for a record that leaves. -/
def Commitment.atBoundary (n : Nat) (c : Commitment) : Option Commitment :=
  if c.expired n && !c.inPulse then none else some ((c.endOrStay n).beginOrStay n)

theorem Commitment.atBoundary_pending {n : Nat} {c : Commitment} (pending : c.standing = .pending) :
    c.atBoundary n = if c.start = n then some { c with standing := .inForce (newLevelRecord c.snapshot) }
      else some c := by
  by_cases due : c.start = n <;>
    simp [Commitment.atBoundary, Commitment.expired, Commitment.endOrStay, Commitment.beginOrStay,
      Commitment.due, Commitment.isPending, Commitment.begin, pending, due]

theorem Commitment.atBoundary_overrun {n : Nat} {c : Commitment} {l : LevelRecord}
    (turned : c.standing = .overrun l) : c.atBoundary n = some c := by
  simp [Commitment.atBoundary, Commitment.expired, Commitment.endOrStay, Commitment.beginOrStay,
    Commitment.due, Commitment.isPending, turned]

theorem Commitment.atBoundary_inForce {n : Nat} {c : Commitment} {l : LevelRecord}
    (inForce : c.standing = .inForce l) : c.atBoundary n = if n ≤ c.stop then some c
      else if c.inPulse then some { c with standing := .overrun l } else none := by
  by_cases stays : n ≤ c.stop
  · simp [Commitment.atBoundary, Commitment.expired, Commitment.endOrStay, Commitment.beginOrStay,
      Commitment.due, Commitment.isPending, inForce, stays, not_lt.mpr stays]
  · by_cases pulse : c.inPulse = true <;>
      simp [Commitment.atBoundary, Commitment.expired, Commitment.endOrStay, Commitment.beginOrStay,
        Commitment.overrun, Commitment.due, Commitment.isPending, inForce, stays, pulse, not_le.mp stays]

theorem Commitment.inPulse_eq {c : Commitment} {l : LevelRecord} (inForce : c.standing = .inForce l) :
    c.inPulse = match l.follower with
      | .trig (.firing _) => true
      | .trig (.releasing _) => true
      | _ => false := by
  unfold Commitment.inPulse Commitment.phase Commitment.level
  rw [inForce]
  dsimp only [Option.map]
  cases l.follower with
  | trig phase => cases phase <;> rfl
  | prop => rfl
  | setp => rfl

section AtBoundary

variable {b : Book} {n : Nat} {c : Commitment}

/-- Of a book of distinct ids, the records that leave are those of the ids that leave. -/
theorem Book.ended_contains (ids : (b.records.map Commitment.id).Nodup) (mem : c ∈ b.records) :
    ((b.ended n).map Commitment.id).contains c.id = (c.expired n && !c.inPulse) := by
  rw [Bool.eq_iff_iff, List.contains_iff_mem]
  constructor
  · intro named
    obtain ⟨d, leaves, same⟩ := List.mem_map.mp named
    have d_eq : d = c := List.inj_on_of_nodup_map ids ((b.ended_sublist n).subset leaves) mem same
    obtain ⟨expired, idle⟩ := List.mem_filter.mp (d_eq ▸ leaves)
    simpa using ⟨(List.mem_filter.mp expired).2, by simpa using idle⟩
  · intro leaves
    simp only [Bool.and_eq_true] at leaves
    exact List.mem_map_of_mem (List.mem_filter.mpr ⟨List.mem_filter.mpr ⟨mem, leaves.1⟩, leaves.2⟩)

theorem Book.settled_records (ids : (b.records.map Commitment.id).Nodup) :
    (b.settled n).records = b.records.filterMap (Commitment.atBoundary n) := by
  unfold Book.settled Book.less
  dsimp only
  rw [← List.filterMap_eq_map, List.filterMap_filter]
  refine List.filterMap_congr fun c mem => ?_
  rw [Book.ended_contains ids mem]
  unfold Commitment.atBoundary
  cases c.expired n && !c.inPulse <;> rfl

/-- A record that ends or starts is not left as it was. -/
theorem Commitment.atBoundary_changes (turns : (c.expired n || c.due n) = true) : c.atBoundary n ≠ some c := by
  cases standing : c.standing with
  | pending =>
    have start : c.start = n := by
      simpa [Commitment.expired, Commitment.due, Commitment.isPending, standing] using turns
    rw [Commitment.atBoundary_pending standing, if_pos start]
    intro same
    have := congrArg (Option.map Commitment.standing) same
    simp [standing] at this
  | inForce l =>
    have ends : ¬n ≤ c.stop := by
      simpa [Commitment.expired, Commitment.due, Commitment.isPending, standing] using turns
    rw [Commitment.atBoundary_inForce standing, if_neg ends]
    split
    · intro same
      have := congrArg (Option.map Commitment.standing) same
      simp [standing] at this
    · nofun
  | overrun l => simp [Commitment.expired, Commitment.due, Commitment.isPending, standing] at turns

theorem Commitment.atBoundary_id {d : Commitment} (becomes : d.atBoundary n = some c) : c.id = d.id := by
  unfold Commitment.atBoundary at becomes
  split at becomes
  · cases becomes
  · cases becomes; exact (d.atBoundary_alike n).1.1

/-- A boundary changes the book exactly where a record ends or starts. -/
theorem Book.settled_eq_iff (ids : (b.records.map Commitment.id).Nodup) :
    b.settled n = b ↔ b.turns n = false := by
  constructor
  · intro same
    by_contra turned
    obtain ⟨c, mem, turns⟩ := List.any_eq_true.mp (by simpa using turned : b.turns n = true)
    have stays : c ∈ (b.settled n).records := by rw [same]; exact mem
    rw [Book.settled_records ids] at stays
    obtain ⟨d, held, becomes⟩ := List.mem_filterMap.mp stays
    have d_eq : d = c := List.inj_on_of_nodup_map ids held mem (Commitment.atBoundary_id becomes).symm
    exact Commitment.atBoundary_changes turns (d_eq ▸ becomes)
  · intro still
    have quiet : ∀ c ∈ b.records, c.expired n = false ∧ c.due n = false := by
      simpa [Book.turns] using still
    have same : (b.settled n).records = b.records := by
      rw [Book.settled_records ids]
      refine (List.filterMap_congr fun c mem => ?_).trans List.filterMap_some
      obtain ⟨expired, due⟩ := quiet c mem
      simp [Commitment.atBoundary, expired, Commitment.endOrStay, Commitment.beginOrStay, due]
    exact congrArg (fun l => { b with records := l }) same

/-- The marks that stay are those of the records that stay. -/
theorem Book.settled_marked (ids : (b.records.map Commitment.id).Nodup) :
    (markedIds b.records).filter (fun i => !((b.ended n).map Commitment.id).contains i)
      = (markedIds b.records).filter fun i => (b.settled n).records.any fun c => c.id == i := by
  refine List.filter_congr fun i marked => ?_
  obtain ⟨c, mem, rfl⟩ := List.mem_map.mp marked
  have held := List.mem_of_mem_filter mem
  rw [Book.ended_contains ids held, Bool.eq_iff_iff, List.any_eq_true, Book.settled_records ids]
  constructor
  · intro stays
    refine ⟨(c.endOrStay n).beginOrStay n, List.mem_filterMap.mpr ⟨c, held, ?_⟩, ?_⟩
    · exact if_neg (by rw [Bool.not_eq_true'] at stays; rw [stays]; exact Bool.false_ne_true)
    · exact beq_iff_eq.mpr (c.atBoundary_alike n).1.1
  · rintro ⟨d, entry, same⟩
    obtain ⟨e, held', becomes⟩ := List.mem_filterMap.mp entry
    have e_eq : e = c := List.inj_on_of_nodup_map ids held' held
      ((Commitment.atBoundary_id becomes).symm.trans (beq_iff_eq.mp same))
    subst e_eq
    unfold Commitment.atBoundary at becomes
    split at becomes
    · cases becomes
    · rename_i stays
      simpa only [Bool.not_eq_true', Bool.not_eq_true] using stays

end AtBoundary

/-! ### The rows that stay at a boundary (R49) -/

theorem PlanRow.uncommit_of_uncovered {c : Commitment} {r : PlanRow}
    (uncovered : ∀ slot ∈ r.slot, c.covers slot = false) : r.uncommit c = r := by
  unfold PlanRow.uncommit
  refine if_neg ?_
  cases stands : r.slot with
  | none => unfold Commitment.coversRow; rw [stands]; exact Bool.false_ne_true
  | some slot => rw [Commitment.coversRow_of_slot stands, uncovered slot stands]; exact Bool.false_ne_true

/-- Records that cover none of some rows leave those rows as they are. -/
theorem Plan.uncommitAll_eq (l : List Commitment) (p : Plan) :
    ∃ g : PlanRow → PlanRow, l.foldl (fun p c => p.mapRows (PlanRow.uncommit c)) p = p.mapRows g ∧
      ∀ r, (∀ c ∈ l, ∀ slot ∈ r.slot, c.covers slot = false) → g r = r := by
  induction l generalizing p with
  | nil =>
    refine ⟨id, ?_, fun _ _ => rfl⟩
    simp [Plan.mapRows]
  | cons c l ih =>
    obtain ⟨g, all, same⟩ := ih (p.mapRows (PlanRow.uncommit c))
    refine ⟨g ∘ PlanRow.uncommit c, ?_, fun r uncovered => ?_⟩
    · rw [List.foldl_cons, all]
      simp [Plan.mapRows]
    · obtain ⟨first, rest⟩ := List.forall_mem_cons.mp uncovered
      rw [Function.comp_apply, PlanRow.uncommit_of_uncovered first, same r rest]

/-- The rows from the next slot on are covered by no record that leaves at the boundary into it. -/
theorem State.settled_rows {s : State} (h : BookSound s) (set : s.clock.set = true)
    (more : s.clock.slot < maxWord) : (s.settled (s.clock.slot + 1)).plan.rows = s.plan.rows.drop 1
      ++ (s.plan.horizon.map (PlanRow.refresh s.profile s.fleet)).toList := by
  obtain ⟨-, -, time, -⟩ := (bookSound_iff s).mp h
  obtain ⟨placed, -⟩ := time.2 set
  obtain ⟨g, all, same⟩ := Plan.uncommitAll_eq (s.book.ended (s.clock.slot + 1)) s.plan
  have keeps : ∀ r, (∀ slot ∈ r.slot, s.clock.slot < slot) → g r = r := by
    intro r later
    refine same r fun c leaves slot stands => ?_
    have ended := (List.mem_filter.mp (List.mem_of_mem_filter leaves)).2
    have past : c.stop < s.clock.slot + 1 := by
      unfold Commitment.expired at ended
      split at ended
      · simpa using ended
      · cases ended
    have after := later slot stands
    simp [Commitment.covers]
    omega
  change (((s.book.ended (s.clock.slot + 1)).foldl (fun p c => p.mapRows (PlanRow.uncommit c)) s.plan).shift
    s.profile s.fleet (s.clock.slot + 1)).rows = _
  rw [all]
  unfold Plan.shift Plan.mapRows
  dsimp only
  have rows : (s.plan.rows.map g).drop 1 = s.plan.rows.drop 1 := by
    rw [← List.map_drop]
    refine (List.map_congr_left fun r mem => keeps r fun slot stands => ?_).trans (List.map_id _)
    have named := List.mem_map_of_mem (f := PlanRow.slot) mem
    rw [placed.later more.le, stands] at named
    obtain ⟨m, listed, named⟩ := List.mem_map.mp named
    cases named
    exact (List.mem_range'_1.mp (List.mem_of_mem_filter listed)).1
  have horizon : s.plan.horizon.map g = s.plan.horizon := by
    cases held : s.plan.horizon with
    | none => rfl
    | some r =>
      refine congrArg some (keeps r fun slot stands => ?_)
      have named := placed.2
      rw [held, Option.map_some, stands] at named
      split at named
      · cases named; omega
      · cases named
  rw [rows, horizon]

/-! ### The boundary and the second -/

/-- A posting of BOOK after a boundary has settled the part is the posting before it, port by port. -/
theorem State.settled_postIf_port (s : State) (n slot second : Nat) (c : Bool) (port : Port) :
    (((s.settled n).setClock slot second).postIf c .book).port port = (s.postIf c .book).port port := by
  cases c
  · cases port <;> rfl
  · rw [State.postIf_true, State.postIf_true, State.post_ports, State.post_ports]
    cases port <;> rfl

/-- Settles O20: the commands are the boundary and the second; a record's fate is its standing's, and no row
that stays is covered by a record that leaves. -/
theorem boundarySettlesTheBook : Obligations.BoundarySettlesTheBook := by
  refine ⟨fun s run sound set more => ?_, fun s run set early => ?_, fun s run set late more => ?_,
    fun s run set last => ⟨?_, fun late => ?_⟩, fun s unset => ⟨?_, ?_⟩⟩
  · have ids : (s.book.records.map Commitment.id).Nodup := ((bookSound_iff s).mp sound).2.1.2.1
    have after := sound.boundary set more
    refine ⟨((s.settled (s.clock.slot + 1)).setClock (s.clock.slot + 1) 0).postIf
      (s.book.turns (s.clock.slot + 1)) .book, ?_, ?_, ?_, ?_, ?_, ?_, ?_, ?_, ?_, ?_⟩
    · rw [State.postIf_setClock, ← State.boundary_eq, ← State.passBoundary_eq set more]
      exact whenRunning_running _ run
    · obtain ⟨x, y, same⟩ := ((s.settled (s.clock.slot + 1)).setClock (s.clock.slot + 1) 0).postIf_eq
        (s.book.turns (s.clock.slot + 1)) .book
      rw [same]; rfl
    · rw [State.postIf_clock]; rfl
    · rw [State.postIf_book]
      refine congrArg (fun l => ({ s.book with records := l } : Book)) ?_
      refine (Book.settled_records ids).trans (List.filterMap_congr fun c _ => ?_)
      cases standing : c.standing with
      | pending =>
        rw [Commitment.atBoundary_pending standing]
        unfold newLevelRecord
        cases c.snapshot <;> rfl
      | inForce l =>
        rw [Commitment.atBoundary_inForce standing, Commitment.inPulse_eq standing]
        dsimp only
        split
        · rfl
        · cases l.follower with
          | trig phase => cases phase <;> rfl
          | prop => rfl
          | setp => rfl
      | overrun l => exact Commitment.atBoundary_overrun standing
    · rw [State.postIf_marked, State.postIf_book]
      have marked : s.marked = markedIds s.book.records := ((bookSound_iff s).mp sound).2.2.2.2
      rw [marked]
      exact (congrArg (List.filter _) marked).trans (Book.settled_marked ids)
    · rw [State.postIf_plan]
      exact (((bookSound_iff _).mp after).2.2.1.2 rfl).1
    · rw [State.postIf_plan]
      exact State.settled_rows sound set more
    · rw [State.postIf_plan]
      intro r formed
      obtain ⟨-, -, committed, required⟩ := PlanRow.form_some formed
      exact ⟨committed, required, PlanRow.form_refreshed formed⟩
    · intro changed port
      have turns : s.book.turns (s.clock.slot + 1) = true := by
        rw [State.postIf_book] at changed
        exact Bool.of_not_eq_false fun still => changed ((Book.settled_eq_iff ids).mpr still)
      rw [State.settled_postIf_port, turns]; rfl
    · intro same port
      rw [State.postIf_book] at same
      rw [State.settled_postIf_port, (Book.settled_eq_iff ids).mp same]; rfl
  · refine (whenRunning_running State.passSecond run).trans ?_
    unfold State.passSecond
    rw [if_neg (by simp [set]), if_pos early]; rfl
  · refine (whenRunning_running State.passSecond run).trans ?_
    unfold State.passSecond
    rw [if_neg (by simp [set]), if_neg (by omega), if_neg (by omega)]
  · refine (whenRunning_running State.passBoundary run).trans ?_
    unfold State.passBoundary
    rw [if_neg (by simp [set]), if_pos (by rw [last]; decide), last]; rfl
  · refine (whenRunning_running State.passSecond run).trans ?_
    unfold State.passSecond
    rw [if_neg (by simp [set]), if_neg (by omega), if_pos (by rw [last]; decide), last, late]; rfl
  · change whenRunning State.passSecond s = _
    cases run : s.running
    · exact whenRunning_held _ run
    · rw [whenRunning_running _ run]
      unfold State.passSecond
      rw [if_pos (by simp [unset])]
  · change whenRunning State.passBoundary s = _
    cases run : s.running
    · exact whenRunning_held _ run
    · rw [whenRunning_running _ run]
      unfold State.passBoundary
      rw [if_pos (by simp [unset])]

end Sys2Proof.Machine

/-! PROOFS. The Commitment Book's requests: AWARD's checks and batches (R8, R9), the law of admission (R52), and
the walks of the book and of the log (R17, R18, R150). -/

namespace Sys2Proof.Machine

/-! ### The rows of a sound array stand for different slots (R45) -/

/-- The slots of the array, from the current one on. -/
theorem PlanPlaced.slots_eq {plan : Plan} {slot : Nat} (h : PlanPlaced plan slot) : plan.all.map PlanRow.slot
    = ((List.range' slot 193).filter fun n => decide (n ≤ maxWord)).map some := by
  have horizon : plan.horizon.toList.map PlanRow.slot
      = ([slot + 192].filter fun n => decide (n ≤ maxWord)).map some := by
    rw [← Option.toList_map, h.2, List.filter_singleton]
    by_cases inside : slot + 192 ≤ maxWord <;> simp [inside]
  have split : List.range' slot 193 = List.range' slot 192 ++ [slot + 192] := by
    rw [← List.range'_1_concat]
  rw [Plan.all, List.map_append, h.1, horizon, split, List.filter_append, List.map_append]

theorem PlanPlaced.slots_nodup {plan : Plan} {slot : Nat} (h : PlanPlaced plan slot) :
    (plan.all.map PlanRow.slot).Nodup := by
  rw [h.slots_eq]
  exact ((List.nodup_range' ..).filter _).map (Option.some_injective _)

/-- The row found for a slot is the one row that stands for it. -/
theorem Plan.rowFor_eq {plan : Plan} (unique : (plan.all.map PlanRow.slot).Nodup) {row : PlanRow} {n : Nat}
    (mem : row ∈ plan.all) (stands : row.slot = some n) : plan.rowFor n = some row := by
  cases found : plan.rowFor n with
  | none => simpa [stands] using List.find?_eq_none.mp found row mem
  | some q =>
    have same : q.slot = some n := by simpa using List.find?_some found
    exact congrArg some (List.inj_on_of_nodup_map unique (List.mem_of_find?_eq_some found) mem
      (same.trans stands.symm))

theorem Plan.mem_of_rowFor {plan : Plan} {n : Nat} {row : PlanRow} (found : plan.rowFor n = some row) :
    row ∈ plan.all ∧ row.slot = some n :=
  ⟨List.mem_of_find?_eq_some found, by simpa using List.find?_some found⟩

/-! ### The admission test (R51, R52) -/

section Test

variable {plan : Plan} {m start stop : Nat} {capacity requirement : Sides}

theorem PlanRow.fits_of_failingSide {row : PlanRow} (passes : row.failingSide m capacity requirement = none)
    {side : Side} (sold : 0 < capacity.get side) : row.fits m capacity requirement side = true := by
  unfold PlanRow.failingSide at passes
  split at passes
  · cases passes
  · rename_i up
    split at passes
    · cases passes
    · rename_i down
      cases side with
      | up => by_contra unfit; exact up ⟨sold, by simpa using unfit⟩
      | down => by_contra unfit; exact down ⟨sold, by simpa using unfit⟩

/-- Where the test passes, every covered row fits on every side sold (R51). -/
theorem admissionTest_none_fits (unique : (plan.all.map PlanRow.slot).Nodup)
    (passes : admissionTest plan m start stop capacity requirement = none) {row : PlanRow} (mem : row ∈ plan.all)
    {slot : Nat} (stands : row.slot = some slot) (low : start ≤ slot) (high : slot ≤ stop) {side : Side}
    (sold : 0 < capacity.get side) : row.fits m capacity requirement side = true := by
  rw [admissionTest, List.findSome?_eq_none_iff] at passes
  have covered := passes slot (List.mem_range'_1.mpr (by omega))
  rw [Plan.rowFor_eq unique mem stands, Option.bind_some, Option.map_eq_none_iff] at covered
  exact PlanRow.fits_of_failingSide covered sold

/-- The test answers the first slot with a row that fails, and the side it fails on (R51). -/
theorem admissionTest_eq_some {n : Nat} {k : Side} (low : start ≤ n) (high : n ≤ stop)
    (before : ∀ slot, start ≤ slot → slot < n → ∀ row, plan.rowFor slot = some row →
      row.failingSide m capacity requirement = none)
    {row : PlanRow} (found : plan.rowFor n = some row)
    (fails : row.failingSide m capacity requirement = some k) :
    admissionTest plan m start stop capacity requirement = some (n, k) := by
  have split : List.range' start (stop + 1 - start)
      = List.range' start (n - start) ++ n :: List.range' (n + 1) (stop - n) := by
    rw [← List.range'_succ, show stop + 1 - start = (n - start) + (stop - n + 1) by omega,
      ← List.range'_append_1, show start + (n - start) = n by omega]
  rw [admissionTest, split, List.findSome?_append, List.findSome?_eq_none_iff.mpr, Option.none_or,
    List.findSome?_cons, found, Option.bind_some, fails]
  · rfl
  · intro slot mem
    rw [List.mem_range'_1] at mem
    cases found : plan.rowFor slot with
    | none => rfl
    | some row => rw [Option.bind_some, before slot mem.1 (by omega) row found]; rfl

end Test

/-! ### The law of R52 -/

theorem State.takeAward_admitted {s t : State} {r : AwardRecord} {id : Nat}
    (taken : s.takeAward r = (t, .admitted id)) : ∃ seq snapshot, awardChecks s r = .ok (seq, snapshot) ∧
      t = s.enterBook (s.admitted r seq snapshot) := by
  unfold State.takeAward at taken
  cases passed : awardChecks s r with
  | error result =>
    rw [passed] at taken
    obtain ⟨rfl, rfl⟩ := Prod.mk.inj taken
    exfalso
    unfold awardChecks at passed
    dsimp only at passed
    repeat' split at passed
    all_goals cases passed
  | ok admission =>
    obtain ⟨seq, snapshot⟩ := admission
    rw [passed] at taken
    exact ⟨seq, snapshot, rfl, (Prod.mk.inj taken).1.symm⟩

theorem State.enterBook_plan (s : State) (c : Commitment) :
    (s.enterBook c).plan = s.plan.mapRows (PlanRow.commit c) := by
  unfold State.enterBook
  rw [State.post_plan]

/-- Settles O23: the test passed at every row covered, and a row's sums with the record in are those it tested. -/
theorem admissionStaysWithinTheMargin : Obligations.AdmissionStaysWithinTheMargin := by
  intro s t r id sound taken row mem slot stands low high side sold
  obtain ⟨seq, snapshot, passed, rfl⟩ := State.takeAward_admitted taken
  obtain ⟨set, -, -, -, -, -, -, headroom⟩ := awardChecks_ok passed
  have unique := (((bookSound_iff s).mp sound).2.2.1.2 set).1.slots_nodup
  rw [State.enterBook_plan, Plan.mapRows_all] at mem
  obtain ⟨q, held, rfl⟩ := List.mem_map.mp mem
  rw [PlanRow.commit_slot] at stands
  have fits := admissionTest_none_fits unique headroom held stands low high (side := side)
    (by rw [Sides.get_map, floor10_pos_iff]; exact sold)
  have covers : (s.admitted r seq snapshot).coversRow q = true := by
    rw [Commitment.coversRow_of_slot stands]
    exact decide_eq_true ⟨low, high⟩
  unfold PlanRow.fits scaled at fits
  rw [decide_eq_true_iff] at fits
  unfold PlanRow.commit
  rw [if_pos covers]
  cases side <;> exact fits

/-! ### A batch of awards (R8) -/

section Batch

variable (s : State) (port : Port) (kind : RequestKind) (tag : Byte)

theorem State.takeAwards_heard_enter (l : List AwardRecord) :
    State.takeAwards l ((s.heard port).enter port kind tag)
      = (((State.takeAwards l s).1.heard port).enter port kind tag, (State.takeAwards l s).2) := by
  induction l generalizing s with
  | nil => rfl
  | cons r l ih => simp only [State.takeAwards, State.takeAward_heard_enter, ih]

theorem State.takeAwards_port_service (l : List AwardRecord) :
    (((State.takeAwards l s).1).port port).service = (s.port port).service := by
  induction l generalizing s with
  | nil => rfl
  | cons r l ih => exact (ih _).trans (s.takeAward_port_service r port)

/-- The records are taken one after another, each on the state the ones before it left. -/
theorem State.takeAwards_eq_foldl (l : List AwardRecord) (entries : List AwardResult) :
    l.foldl (fun (q : State × List AwardResult) (r : AwardRecord) =>
      ((q.1.takeAward r).1, q.2 ++ [(q.1.takeAward r).2])) (s, entries)
      = ((State.takeAwards l s).1, entries ++ (State.takeAwards l s).2) := by
  induction l generalizing s entries with
  | nil => simp [State.takeAwards]
  | cons r l ih =>
    rw [List.foldl_cons, ih]
    simp [State.takeAwards]

theorem State.takeAwards_length (l : List AwardRecord) : (State.takeAwards l s).2.length = l.length := by
  induction l generalizing s with
  | nil => rfl
  | cons r l ih => exact congrArg (· + 1) (ih _)

end Batch

theorem awardRecords_length (body : List Byte) : (awardRecords body).length = field body 0 1 := by
  simp [awardRecords]

/-! ### The checks in their order (R9) -/

section Checks

variable {s : State} {r : AwardRecord} {tag : Byte} {body : List Byte}

theorem Product.ofCode_eq_trig_iff (n : Nat) : Product.ofCode n = some .trig ↔ n = 2 := by
  unfold Product.ofCode
  split <;> simp_all

/-- A batch of one record that a check fails answers the failure's entry, and changes nothing (R9). -/
theorem exec_award_failing (serves : Serves s .award .market body) (one : field body 0 1 = 1)
    (record : awardRecords body = [r]) {result : AwardResult} (fails : awardChecks s r = .error result) :
    exec (.award .market tag body) s = .next (s.doneWith .award .market tag (1#8 :: result.bytes)) := by
  have kept : s.takeAward r = (s, result) := by unfold State.takeAward; rw [fails]
  rw [exec_award_single serves one record, kept]

theorem awardShape_eq_false_iff : awardShape r = false ↔ r.stop < r.start ∨ 5000000 < r.capacity.up ∨
    5000000 < r.capacity.down ∨ (r.capacity.up < 10 ∧ r.capacity.down < 10) ∨
    (r.product = 2 ∧ 10 ≤ r.capacity.down) := by
  rw [← Bool.not_eq_true, awardShape_iff, Product.ofCode_eq_trig_iff]
  omega

/-- The checks of an admission's place and shape, passed. -/
theorem awardChecks_shaped (set : s.clock.set = true) (early : s.clock.slot < r.start)
    (near : r.stop ≤ s.clock.slot + 192) (shape : awardShape r = true) {snapshot : Snapshot}
    (taken : awardSnapshot s.profile r = some snapshot) : awardChecks s r =
      match s.book.nextSeq with
      | none => .error (.refused .full)
      | some seq =>
        if 64 ≤ s.book.records.length then .error (.refused .full)
        else
          match admissionTest s.plan (s.profile.nat .margin) r.start r.stop (r.capacity.map floor10)
            (energyRequirement (r.capacity.map floor10) snapshot) with
          | some (slot, side) => .error (.noHeadroom slot side)
          | none => .ok (seq, snapshot) := by
  unfold awardChecks
  rw [if_neg (by simp [set]), if_neg (not_le.mpr early), if_neg (not_lt.mpr near), if_neg (by simp [shape])]
  simp only [taken] <;> rfl

end Checks

theorem awardShape_of_parts {r : AwardRecord} (rises : r.start ≤ r.stop) (up : r.capacity.up ≤ 5000000)
    (down : r.capacity.down ≤ 5000000) (some_ : 10 ≤ r.capacity.up ∨ 10 ≤ r.capacity.down)
    (oneSided : r.product = 2 → r.capacity.down < 10) : awardShape r = true :=
  (awardShape_iff r).mpr ⟨rises, up, down, some_, fun trig => oneSided ((Product.ofCode_eq_trig_iff _).mp trig)⟩

/-- Settles O22: a batch is a fold of its records; in a batch of one each clause is the first check that fails,
and the admission test stops at the first slot and side without room. -/
theorem awardChecksRefuseInOrder : Obligations.AwardChecksRefuseInOrder := by
  refine ⟨fun s tag body serves => ⟨fun bad => ?_, fun taken low high fold => ?_⟩,
    fun s tag body r serves one record => ⟨fun reason => .next (s.doneWith .award .market tag
      (1#8 :: (AwardResult.refused reason).bytes)), fun reason => ?_, fun unset => ?_, fun set late => ?_,
      fun set early far => ?_, fun set early near fails => ?_,
      fun set early near rises up down some_ oneSided taken full => ?_,
      fun snapshot n k set early near rises up down some_ oneSided taken room next sound low high before fails =>
        ?_⟩⟩
  · apply request_refused serves serves.idle
    exact if_pos bad
  · rw [State.takeAwards_eq_foldl, List.nil_append] at fold
    subst fold
    refine ⟨awardRecords_length body, (State.takeAwards_length _ _).trans (awardRecords_length body), ?_⟩
    refine request_answered serves ((State.takeAwards_port_service _ _ _).trans serves.idle) ?_
    unfold answerAward
    dsimp only
    rw [if_neg (by omega), State.takeAwards_heard_enter]
  · simp [AwardResult.bytes, be]
  · refine exec_award_failing serves one record ?_
    unfold awardChecks; exact if_pos (by simp [unset])
  · refine exec_award_failing serves one record ?_
    unfold awardChecks; rw [if_neg (by simp [set]), if_pos late]
  · refine exec_award_failing serves one record ?_
    unfold awardChecks; rw [if_neg (by simp [set]), if_neg (not_le.mpr early), if_pos far]
  · refine exec_award_failing serves one record ?_
    unfold awardChecks
    rw [if_neg (by simp [set]), if_neg (not_le.mpr early), if_neg (not_lt.mpr near)]
    cases shape : awardShape r with
    | false => rfl
    | true =>
      have misfit : awardSnapshot s.profile r = none := by
        have fit := (awardShape_eq_false_iff (r := r)).not.mp (by simp [shape])
        tauto
      rw [misfit]; rfl
  · obtain ⟨snapshot, taken⟩ := Option.ne_none_iff_exists'.mp taken
    refine exec_award_failing serves one record ?_
    rw [awardChecks_shaped set early near (awardShape_of_parts rises up down some_ oneSided) taken]
    cases next : s.book.nextSeq with
    | none => rfl
    | some seq => exact if_pos (full.resolve_right (by simp [next]))
  · obtain ⟨seq, next⟩ := Option.ne_none_iff_exists'.mp next
    obtain ⟨row, mem, stands, sold, lacks⟩ := fails
    have unique := (((bookSound_iff s).mp sound).2.2.1.2 set).1.slots_nodup
    have roomy : ∀ (side : Side) (row : PlanRow), row ∈ s.plan.all → ∀ slot, row.slot = some slot →
        (r.start ≤ slot ∧ slot < n) ∨ (slot = n ∧ side = .up ∧ k = .down) →
        0 < (r.capacity.map floor10).get side → row.fits (s.profile.nat .margin) (r.capacity.map floor10)
          (energyRequirement (r.capacity.map floor10) snapshot) side = true := by
      intro side row mem slot stands place sold
      rw [Sides.get_map, floor10_pos_iff] at sold
      rw [PlanRow.fits, decide_eq_true_iff, Sides.get_map]
      exact before side row mem slot stands place sold
    have test : admissionTest s.plan (s.profile.nat .margin) r.start r.stop (r.capacity.map floor10)
        (energyRequirement (r.capacity.map floor10) snapshot) = some (n, k) := by
      refine admissionTest_eq_some low high (fun slot first last q found => ?_)
        (Plan.rowFor_eq unique mem stands) ?_
      · obtain ⟨held, named⟩ := Plan.mem_of_rowFor found
        exact PlanRow.failingSide_eq_none fun side => roomy side q held slot named (.inl ⟨first, last⟩)
      · have unfit : row.fits (s.profile.nat .margin) (r.capacity.map floor10)
            (energyRequirement (r.capacity.map floor10) snapshot) k = false := by
          rw [PlanRow.fits, decide_eq_false_iff_not, Sides.get_map, not_and_or, not_le, not_le]
          exact lacks
        have sold' : 0 < (r.capacity.map floor10).get k := by rw [Sides.get_map, floor10_pos_iff]; exact sold
        unfold PlanRow.failingSide
        cases k with
        | up => exact if_pos ⟨sold', by simp [unfit]⟩
        | down =>
          rw [if_neg, if_pos ⟨sold', by simp [unfit]⟩]
          rintro ⟨soldUp, short⟩
          rw [roomy .up row mem n stands (.inr ⟨rfl, rfl, rfl⟩) soldUp] at short
          cases short
    have fails : awardChecks s r = .error (.noHeadroom n k) := by
      rw [awardChecks_shaped set early near (awardShape_of_parts rises up down some_ oneSided) taken, next]
      dsimp only
      rw [if_neg (not_le.mpr room), test]
    rw [exec_award_failing serves one record fails]
    cases k <;> simp [AwardResult.bytes, be, Reason.code, Side.code]

/-! ### The walks (R17, R18, R150) -/

/-- In a list in order, the first record that meets a condition is the one no other precedes. -/
theorem find?_of_least {α : Type} {R : α → α → Prop} {l : List α} (sorted : l.Pairwise R) {p : α → Bool} {c : α}
    (mem : c ∈ l) (meets : p c = true) (least : ∀ d ∈ l, p d = true → ¬R d c) : l.find? p = some c := by
  cases found : l.find? p with
  | none => exact absurd meets (List.find?_eq_none.mp found c mem)
  | some x =>
    obtain ⟨first, before, after, rfl, none_⟩ := List.find?_eq_some_iff_append.mp found
    rcases List.mem_append.mp mem with early | late
    · have := none_ c early; rw [meets] at this; cases this
    · rcases List.mem_cons.mp late with rfl | later
      · rfl
      · have follows := (List.pairwise_cons.mp (List.pairwise_append.mp sorted).2.1).1 c later
        exact absurd follows (least x (by simp) first)

theorem keyLess_irrefl (k : Key) : keyLess k k = false := by
  rw [← Bool.not_eq_true, keyLess_iff]; omega

theorem keyLess_asymm {a b : Key} (h : keyLess a b = true) : keyLess b a = false := by
  rw [← Bool.not_eq_true, keyLess_iff]
  rw [keyLess_iff] at h
  omega

theorem Book.above_eq_find (b : Book) (last : Option Key) :
    b.above last = b.records.find? fun c => match last with
      | none => true
      | some key => keyLess key c.key := by
  cases last with
  | none => unfold Book.above; cases b.records <;> rfl
  | some key => rfl

theorem logAbove_eq_find (log : List EpisodeRecord) (last : Option Nat) :
    logAbove log last = log.find? fun r => match last with
      | none => true
      | some n => decide (n < r.number) := by
  cases last with
  | none => unfold logAbove; cases log <;> rfl
  | some key => rfl

section Walks

variable {s : State} {port : Port} {kind : RequestKind} {tag : Byte}

@[simp] theorem State.heard_enter_bookCursor :
    (((s.heard port).enter port kind tag).port port).bookCursor = (s.port port).bookCursor := by
  cases port <;> rfl

@[simp] theorem State.heard_enter_logCursor :
    (((s.heard port).enter port kind tag).port port).logCursor = (s.port port).logCursor := by
  cases port <;> rfl

/-- A cursor moved takes no notice of the request in service. -/
theorem State.setBookCursor_heard_enter (c : Cursor Key) :
    ((s.heard port).enter port kind tag).setPort port
        { ((s.heard port).enter port kind tag).port port with bookCursor := c }
      = ((s.setPort port { s.port port with bookCursor := c }).heard port).enter port kind tag := by
  cases port <;> rfl

theorem State.setLogCursor_heard_enter (c : Cursor Nat) :
    ((s.heard port).enter port kind tag).setPort port
        { ((s.heard port).enter port kind tag).port port with logCursor := c }
      = ((s.setPort port { s.port port with logCursor := c }).heard port).enter port kind tag := by
  cases port <;> rfl

theorem State.setBookCursor_service (c : Cursor Key) (idle : (s.port port).service = none) :
    ((s.setPort port { s.port port with bookCursor := c }).port port).service = none := by
  rw [State.setPort_port]; exact idle

theorem State.setLogCursor_service (c : Cursor Nat) (idle : (s.port port).service = none) :
    ((s.setPort port { s.port port with logCursor := c }).port port).service = none := by
  rw [State.setPort_port]; exact idle

end Walks

/-- Settles O25: the walks find the first record above the last key; in key order that is the least. -/
theorem walksFollowTheirKeys : Obligations.WalksFollowTheirKeys := by
  refine ⟨fun c d => ⟨rfl, keyLess_iff _ _, fun k => keyLess_iff _ _⟩,
    ⟨fun s port tag serves => ?_, fun s port tag serves => ⟨fun closed => ?_, fun last opened none_ => ?_,
      fun last opened sound c mem above least => ?_⟩⟩,
    ⟨fun s port tag serves => ?_, fun s port tag serves => ⟨fun closed => ?_, fun last opened none_ => ?_,
      fun last opened sound r mem above least => ?_⟩⟩⟩
  · refine request_answered serves (State.setBookCursor_service (.opened none) serves.idle) ?_
    unfold answerBookOpen
    rw [State.setBookCursor_heard_enter, State.heard_enter_book]
  · apply request_refused serves serves.idle
    unfold answerBookNext
    rw [State.heard_enter_bookCursor, closed]
  · refine request_answered serves serves.idle ?_
    unfold answerBookNext
    rw [State.heard_enter_bookCursor, opened]
    dsimp only
    rw [State.heard_enter_book, Book.above_eq_find, List.find?_eq_none.mpr]
    · rfl
    · intro c mem
      obtain ⟨k, rfl, below⟩ := none_ c mem
      simp [below]
  · refine request_answered serves
      (State.setBookCursor_service (.opened (some c.key)) serves.idle) ?_
    have found : s.book.above last = some c := by
      rw [Book.above_eq_find]
      have sorted := ((bookSound_iff s).mp sound).2.1.1
      refine find?_of_least sorted mem ?_ fun d held follows => ?_
      · cases last with
        | none => rfl
        | some k => exact above k rfl
      · have next := least d held fun k at_ => by subst at_; exact follows
        rw [Bool.not_eq_true]
        rcases next with rfl | less
        · exact keyLess_irrefl _
        · exact keyLess_asymm less
    unfold answerBookNext
    rw [State.heard_enter_bookCursor, opened]
    dsimp only
    rw [State.heard_enter_book, found, ← State.setBookCursor_heard_enter]
    rfl
  · refine request_answered serves (State.setLogCursor_service (.opened none) serves.idle) ?_
    unfold answerLogOpen
    dsimp only
    rw [State.setLogCursor_heard_enter, State.heard_enter_delivery]
  · apply request_refused serves serves.idle
    unfold answerLogNext
    rw [State.heard_enter_logCursor, closed]
  · refine request_answered serves serves.idle ?_
    unfold answerLogNext
    rw [State.heard_enter_logCursor, opened]
    dsimp only
    rw [State.heard_enter_delivery, logAbove_eq_find, List.find?_eq_none.mpr]
    · rfl
    · intro r mem
      obtain ⟨k, rfl, below⟩ := none_ r mem
      simp [below]
  · refine request_answered serves
      (State.setLogCursor_service (.opened (some r.number)) serves.idle) ?_
    have found : logAbove s.delivery.log last = some r := by
      rw [logAbove_eq_find]
      obtain ⟨-, -, -, -, rising, -⟩ := (deliverySound_iff s).mp sound
      refine find?_of_least (List.pairwise_map.mp rising) mem ?_ fun q held follows => ?_
      · cases last with
        | none => rfl
        | some k => exact decide_eq_true (above k rfl)
      · have next := least q held fun k at_ => by subst at_; exact of_decide_eq_true follows
        omega
    unfold answerLogNext
    rw [State.heard_enter_logCursor, opened]
    dsimp only
    rw [State.heard_enter_delivery, found, ← State.setLogCursor_heard_enter]
    rfl

end Sys2Proof.Machine

/-! PROOFS. The statements about the meter's events: edges, silence, relayed readings (R61 to R72, R84). -/

namespace Sys2Proof.Machine

/-! ### Postings on both ports (R161) -/

/-- A posting under a condition, written out: it moves the two ports. -/
theorem State.postIf_ports (s : State) (c : Bool) (k : Notice) :
    s.postIf c k = { s with market := (s.postIf c k).market, operator := (s.postIf c k).operator } := by
  cases c
  · rfl
  · exact s.post_eq k

/-- A kind both ports carry is pending on both after its posting. -/
theorem State.post_pending_on {s : State} {k : Notice} (both : hasNotice (carriedNotices .operator) k = true)
    (port : Port) : hasNotice ((s.post k).port port).notices k = true := by
  rw [State.post_port, if_pos (by cases port; exacts [hasNotice_market k, both])]
  exact PortState.post_has ..

/-! ### What an event of the meter leaves -/

section MeterEvent

variable (s : State) (e : Meter × Option Nat)

theorem State.meterEvent_eq : s.meterEvent e = { s with
    meter := e.1, book := s.meterBook e.1 e.2
    market := (s.postIf (e.1.state != s.meter.state) .freq).market
    operator := (s.postIf (e.1.state != s.meter.state) .freq).operator } := by
  unfold State.meterEvent
  rw [State.postIf_with_meter, State.postIf_ports]

@[simp] theorem State.meterEvent_meter : (s.meterEvent e).meter = e.1 := by rw [State.meterEvent_eq]

theorem State.meterEvent_book : (s.meterEvent e).book = s.meterBook e.1 e.2 := by rw [State.meterEvent_eq]

theorem State.meterEvent_market :
    (s.meterEvent e).market = (s.postIf (e.1.state != s.meter.state) .freq).market := by
  rw [State.meterEvent_eq]

theorem State.meterEvent_operator :
    (s.meterEvent e).operator = (s.postIf (e.1.state != s.meter.state) .freq).operator := by
  rw [State.meterEvent_eq]

theorem State.meterEvent_port (port : Port) :
    (s.meterEvent e).port port = (s.postIf (e.1.state != s.meter.state) .freq).port port := by
  cases port
  · exact s.meterEvent_market e
  · exact s.meterEvent_operator e

theorem State.meterEvent_frame : s.meterEvent e = { s with
    meter := (s.meterEvent e).meter, book := (s.meterEvent e).book
    market := (s.meterEvent e).market, operator := (s.meterEvent e).operator } := by
  rw [State.meterEvent_eq]

/-- FREQ goes to both ports on a change of state (R68). -/
theorem State.meterEvent_posts (changed : e.1.state ≠ s.meter.state) :
    (∀ port, hasNotice ((s.meterEvent e).port port).notices .freq = true) ∧
      (s.meterEvent e).market = (s.post .freq).market ∧
      (s.meterEvent e).operator = (s.post .freq).operator := by
  have posted : (e.1.state != s.meter.state) = true := bne_iff_ne.mpr changed
  have market : (s.meterEvent e).market = (s.post .freq).market := by
    rw [State.meterEvent_market, posted, State.postIf_true]
  have operator : (s.meterEvent e).operator = (s.post .freq).operator := by
    rw [State.meterEvent_operator, posted, State.postIf_true]
  refine ⟨fun port => ?_, market, operator⟩
  have pending := State.post_pending_on (s := s) (k := .freq) rfl port
  cases port
  · rwa [State.port_market, market]
  · rwa [State.port_operator, operator]

theorem State.meterEvent_silent (same : e.1.state = s.meter.state) :
    (s.meterEvent e).market = s.market ∧ (s.meterEvent e).operator = s.operator := by
  have still : (e.1.state != s.meter.state) = false := by simp [same]
  rw [State.meterEvent_market, State.meterEvent_operator, still, State.postIf_false]
  exact ⟨rfl, rfl⟩

/-- The book after an event that takes no measurement: Left VALID where VALID is left for INVALID or LOST. -/
theorem State.meterBook_none (m : Meter) : s.meterBook m none =
    if s.meter.state = .valid ∧ (m.state = .invalid ∨ m.state = .lost) then s.book.leftValid else s.book := by
  simp [State.meterBook, Meter.leaves]

/-- A meter that stays in its state leaves the book. -/
theorem State.meterBook_same {m : Meter} (same : m.state = s.meter.state) : s.meterBook m none = s.book := by
  rw [State.meterBook_none, if_neg]
  rintro ⟨valid, h | h⟩ <;> rw [same, valid] at h <;> cases h

end MeterEvent

/-! ### Edges (R61 to R64, R66) -/

theorem Meter.good_frame (m : Meter) (p : Nat) : (m.good p).1 = { m with
    badRun := 0, window := joinWindow m.window p, state := (m.good p).1.state
    latest := (m.good p).1.latest } := by
  unfold Meter.good
  dsimp only
  split
  · rfl
  · split <;> rfl

/-- A valid period makes an ACQUIRING meter VALID at the fifth, and an INVALID one ACQUIRING; a measurement is
given exactly in VALID (R63). -/
theorem Meter.good_measures {m : Meter} {p : Nat}
    (full : m.state = .valid ∨ (m.state = .acquiring ∧ (joinWindow m.window p).length = 5)) :
    m.good p = ({ m with badRun := 0, window := joinWindow m.window p, state := .valid
                         latest := some (measuredFrequency (joinWindow m.window p).sum) },
      some (measuredFrequency (joinWindow m.window p).sum)) := if_pos full

theorem Meter.good_gathers {m : Meter} {p : Nat} (heard : m.state ≠ .lost)
    (short : ¬(m.state = .valid ∨ (m.state = .acquiring ∧ (joinWindow m.window p).length = 5))) :
    m.good p = ({ m with badRun := 0, window := joinWindow m.window p, state := .acquiring }, none) := by
  refine (if_neg short).trans ?_
  split
  case isTrue => rfl
  case isFalse valid =>
    have acquiring : m.state = .acquiring := by
      cases h : m.state <;> simp_all
    rw [← acquiring]

/-- The window as the statements write it. -/
theorem joinWindow_eq (window : List Nat) (p : Nat) :
    joinWindow window p = (if window.length < 5 then window else window.tail) ++ [p] := by
  unfold joinWindow
  rcases lt_or_ge window.length 5 with h | h
  · rw [if_neg (by omega), if_pos h]
  · rw [if_pos h, if_neg (by omega), List.drop_one]

theorem Meter.bad_third {m : Meter} (heard : m.state ≠ .lost) (third : 3 ≤ m.run) (valid : m.state ≠ .invalid) :
    m.bad = { m with badRun := m.run, state := .invalid, window := [], latest := none } := by
  refine if_pos ⟨third, ?_⟩
  cases h : m.state <;> simp_all

theorem Meter.bad_counts {m : Meter} (first : m.run < 3 ∨ m.state = .invalid) :
    m.bad = { m with badRun := m.run } := by
  refine if_neg ?_
  rintro ⟨third, h⟩
  rcases first with few | invalid
  · omega
  · simp [invalid] at h

/-- The edge that forms no period, over a meter with no previous capture. -/
theorem Meter.edge_first {m : Meter} (high : Bool) (capture : Capture) (first : m.previous = none) :
    m.edge high capture = (if m.state = MeterState.lost then
        { m with counter := capture, previous := some capture, lossCompare := some capture
                 state := .acquiring, window := [], badRun := 0 }
      else { m with counter := capture, previous := some capture, lossCompare := some capture }, none) := by
  unfold Meter.edge
  simp only [first]
  split <;> rfl

theorem validPeriod_band {high : Bool} {p : Nat} : validPeriod high p = true ↔
    if high then 153846 ≤ p ∧ p ≤ 181818 else 181818 ≤ p ∧ p ≤ 222222 := by
  cases high <;> simp [validPeriod]

/-- What an edge makes of the meter and the book where a period is formed, as R63 and R64 say. -/
theorem Meter.edge_next {m : Meter} {previous : Capture} (high : Bool) (capture : Capture)
    (second : m.previous = some previous) : m.edge high capture =
      let e := if validPeriod high (capture - previous).toNat then
          { m with counter := capture }.good (capture - previous).toNat
        else ({ m with counter := capture }.bad, none)
      ({ e.1 with previous := some capture, lossCompare := some capture }, e.2) := by
  unfold Meter.edge; simp only [second]

/-- The meter after an edge that forms a period keeps what no edge writes. -/
theorem Meter.edge_frame {m : Meter} {previous : Capture} (high : Bool) (capture : Capture)
    (second : m.previous = some previous) : (m.edge high capture).1 = { m with
      counter := capture, previous := some capture, lossCompare := some capture
      badRun := (m.edge high capture).1.badRun, window := (m.edge high capture).1.window
      state := (m.edge high capture).1.state, latest := (m.edge high capture).1.latest } := by
  rw [Meter.edge_next _ _ second]
  dsimp only
  split
  · rw [Meter.good_frame]
  · unfold Meter.bad
    split <;> rfl

/-- Settles O35: an edge is one event of the meter (`State.edge_event`); the period is good or bad, and the
meter's own case equations give each clause. -/
theorem edgesFormPeriods : Obligations.EdgesFormPeriods := by
  intro s capture running
  have exec_edge : exec (.lrefEdge capture) s = .next (s.edge capture) := whenRunning_running _ running
  refine ⟨fun relayed => ?_, fun local_ first => ?_, fun previous local_ second heard => ?_⟩
  · rw [exec_edge, State.edge, if_pos relayed]
  · rw [exec_edge, State.edge_event local_, Meter.edge_first _ _ first]
    by_cases lost : s.meter.state = .lost
    · rw [if_pos lost, if_pos lost]
      unfold State.meterEvent
      simp only [lost]
      rw [State.meterBook_none, if_neg (by simp)]
      rfl
    · rw [if_neg lost, if_neg lost, State.meterEvent_quiet]
      rfl
  · refine ⟨_, _, _, _, validPeriod s.straps.nomfHigh (capture - previous).toNat = true, rfl, validPeriod_band,
      rfl, rfl, exec_edge, ?_⟩
    rw [State.edge_event local_, ← joinWindow_eq]
    refine ⟨s.meterEvent_frame _, ?_, fun valid => ?_, fun invalid => ?_, fun changed => ?_, fun same => ?_⟩
    · rw [State.meterEvent_meter]; exact Meter.edge_frame _ _ second
    · rw [State.meterEvent_book, State.meterEvent_meter, Meter.edge_next _ _ second]
      dsimp only
      rw [if_pos valid]
      by_cases full : s.meter.state = .valid ∨
          (s.meter.state = .acquiring ∧ (joinWindow s.meter.window (capture - previous).toNat).length = 5)
      · simp only [if_pos full, Meter.good_measures (m := { s.meter with counter := capture }) full]
        exact ⟨trivial, trivial, trivial, rfl, rfl⟩
      · simp only [if_neg full, Meter.good_gathers (m := { s.meter with counter := capture }) heard full]
        refine ⟨trivial, trivial, trivial, trivial, ?_⟩
        rw [State.meterBook_none, if_neg (by simp)]
    · rw [State.meterEvent_book, State.meterEvent_meter, Meter.edge_next _ _ second]
      dsimp only
      rw [if_neg invalid]
      by_cases third : 3 ≤ s.meter.run ∧ s.meter.state ≠ .invalid
      · obtain ⟨run, valid⟩ := third
        simp only [Meter.bad_third (m := { s.meter with counter := capture }) heard run valid]
        refine ⟨rfl, ?_, fun _ _ => ⟨trivial, trivial, trivial⟩, ?_⟩
        · rintro (few | h)
          · exact absurd run (not_le.mpr few)
          · exact absurd h valid
        · rw [State.meterBook_none]
          simp [show 3 ≤ min 255 (s.meter.badRun + 1) from run]
      · have first : s.meter.run < 3 ∨ s.meter.state = .invalid := by
          rw [← not_le, or_iff_not_imp_left, not_not]; exact fun run => by_contra fun valid => third ⟨run, valid⟩
        simp only [Meter.bad_counts (m := { s.meter with counter := capture }) first]
        refine ⟨rfl, fun _ => ⟨trivial, trivial, trivial⟩, fun run valid => absurd ⟨run, valid⟩ third, ?_⟩
        refine (s.meterBook_same rfl).trans (if_neg ?_).symm
        rintro ⟨valid, run⟩
        exact third ⟨run, by simp [valid]⟩
    · rw [State.meterEvent_meter] at changed; exact s.meterEvent_posts _ changed
    · rw [State.meterEvent_meter] at same; exact s.meterEvent_silent _ same

/-! ### Silence (R65, R72) -/

/-- Settles O36: each expiry is one event of the meter. -/
theorem silentInputsLoseTheMeter : Obligations.SilentInputsLoseTheMeter := by
  refine ⟨fun s start running armed heard => ?_, fun s timer running armed heard => ?_,
    fun s timer running armed lost => ?_⟩
  · have lose : s.meter.lose = { s.meter with
        state := .lost, window := [], latest := none, badRun := 0, previous := none, lossCompare := none } := by
      unfold Meter.lose
      rw [if_neg (by simp [armed]), if_neg heard]
    have leaves : MeterState.lost ≠ s.meter.state := Ne.symm heard
    obtain ⟨pending, market, operator⟩ := s.meterEvent_posts (s.meter.lose, none) (by rw [lose]; exact leaves)
    refine ⟨_, (whenRunning_running _ running).trans (congrArg _ s.lossExpiry_event), s.meterEvent_frame _,
      (s.meterEvent_meter _).trans lose, ?_, market, operator, pending⟩
    rw [State.meterEvent_book, State.meterBook_none, lose]
    simp
  · have silent : s.meter.fallSilent = { s.meter with
        state := .lost, latest := none, badRun := 0, silence := none } := by
      unfold Meter.fallSilent
      rw [if_neg (by simp [armed]), if_pos heard]
    have leaves : MeterState.lost ≠ s.meter.state := by rcases heard with h | h <;> rw [h] <;> decide
    obtain ⟨pending, market, operator⟩ :=
      s.meterEvent_posts (s.meter.fallSilent, none) (by rw [silent]; exact leaves)
    refine ⟨_, (whenRunning_running _ running).trans (congrArg _ s.silenceExpiry_event), s.meterEvent_frame _,
      (s.meterEvent_meter _).trans silent, ?_, market, operator, pending⟩
    rw [State.meterEvent_book, State.meterBook_none, silent]
    simp
  · refine (whenRunning_running _ running).trans (congrArg _ ?_)
    unfold State.silenceExpiry
    simp only [armed, lost]
    rfl

/-! ### Relayed readings (R70, R71) -/

theorem State.meterEvent_heard_enter (s : State) (port : Port) (kind : RequestKind) (tag : Byte)
    (e : Meter × Option Nat) : ((s.heard port).enter port kind tag).meterEvent e
      = ((s.meterEvent e).heard port).enter port kind tag := by
  unfold State.meterEvent
  rw [← State.postIf_heard_enter]
  congr 1
  · cases port <;> rfl
  · cases port <;> rfl

theorem Meter.reading_frame (nominal f : Nat) (timer : Timer) (m : Meter) :
    (m.reading nominal f timer).1 = { m with
      state := (m.reading nominal f timer).1.state, latest := (m.reading nominal f timer).1.latest
      badRun := (m.reading nominal f timer).1.badRun, silence := some timer } := by
  unfold Meter.reading
  split
  · rfl
  · split <;> rfl

theorem inBand_iff (nominal f : Nat) : inBand nominal f = true ↔ nominal - 5000 ≤ f ∧ f ≤ nominal + 5000 := by
  unfold inBand; exact decide_eq_true_iff

theorem Meter.reading_taken {nominal f : Nat} (timer : Timer) (m : Meter) (within : inBand nominal f = true) :
    m.reading nominal f timer =
      ({ m with silence := some timer, badRun := 0, state := .valid, latest := some f }, some f) := if_pos within

theorem Meter.reading_third {nominal f : Nat} (timer : Timer) {m : Meter} (outside : ¬inBand nominal f = true)
    (third : 3 ≤ m.run ∧ m.state ≠ .invalid) : m.reading nominal f timer =
      ({ m with silence := some timer, badRun := m.run, state := .invalid, latest := none }, none) :=
  (if_neg outside).trans (if_pos third)

theorem Meter.reading_counts {nominal f : Nat} (timer : Timer) {m : Meter} (outside : ¬inBand nominal f = true)
    (first : ¬(3 ≤ m.run ∧ m.state ≠ .invalid)) : m.reading nominal f timer =
      ({ m with silence := some timer, badRun := m.run }, none) :=
  (if_neg outside).trans (if_neg first)

/-- A posting under a condition moves of each port what a posting moves. -/
theorem State.postIf_port_frame (s : State) (c : Bool) (k : Notice) (port : Port) :
    ∃ x, (s.postIf c k).port port = x ∧
      x = { s.port port with notices := x.notices, line := x.line, owed := x.owed } := by
  refine ⟨_, rfl, ?_⟩
  cases c with
  | false => rfl
  | true =>
    rw [State.postIf_true, State.post_port]
    split
    · obtain ⟨x, posted, frame⟩ := PortState.post_eq (s.port port) (s.profile.pulseMode port)
        (s.profile.enables port) k
      rw [posted]; exact frame
    · rfl

theorem State.meterEvent_service (s : State) (e : Meter × Option Nat) (port : Port) :
    ((s.meterEvent e).port port).service = (s.port port).service := by
  unfold State.meterEvent
  rw [State.postIf_port_service]
  cases port <;> rfl

/-- The answer of FREQ, on the event of its reading. -/
theorem answerFreq_heard_enter (s : State) (port : Port) (tag : Byte) (body : List Byte) :
    answerFreq body ((s.heard port).enter port .freq tag) =
      let u := s.meterEvent (s.meter.reading s.nominal (field body 0 4) (s.arm (secCounts 1)))
      ((u.heard port).enter port .freq tag, .done [BitVec.ofNat 8 u.meter.state.code,
        if inBand s.nominal (field body 0 4) then 0#8 else 1#8]) := by
  have meter : ((s.heard port).enter port .freq tag).meter = s.meter := by rw [State.heard_enter_eq, State.setPort_meter]
  have nominal : ((s.heard port).enter port .freq tag).nominal = s.nominal := by
    rw [State.heard_enter_eq, State.setPort_nominal]
  have arm : ∀ n, ((s.heard port).enter port .freq tag).arm n = s.arm n := by
    rw [State.heard_enter_eq]; cases port <;> exact fun _ => rfl
  unfold answerFreq
  simp only [State.reading_event, meter, nominal, arm, State.meterEvent_heard_enter]
  have carried : ∀ u : State, ((u.heard port).enter port .freq tag).meter = u.meter := by
    intro u; rw [State.heard_enter_eq, State.setPort_meter]
  rw [carried]
  split <;> simp [be]

/-- Settles O37: a relayed reading is one event of the meter, in band or out of it. -/
theorem relayedReadingsAreJudged : Obligations.RelayedReadingsAreJudged := by
  intro s tag body serves
  have answered : exec (.freq .operator tag body) s = .next
      ((s.meterEvent (s.meter.reading s.nominal (field body 0 4) (s.arm (secCounts 1)))).doneWith .freq .operator
        tag _) :=
    request_answered (t := s.meterEvent _) serves ((s.meterEvent_service _ _).trans serves.idle) (answerFreq_heard_enter s .operator tag body)
  refine ⟨field body 0 4, _, inBand s.nominal (field body 0 4) = true,
    s.meterEvent (s.meter.reading s.nominal (field body 0 4) (s.arm (secCounts 1))), rfl, rfl, inBand_iff _ _,
    fun within => ?_, fun outside => ?_, s.meterEvent_frame _, ?_, ?_, fun within => ?_, fun outside => ?_,
    fun changed => ?_, fun same => ?_⟩
  · rw [answered, if_pos within]
  · rw [answered, if_neg outside]
  · intro port
    rw [State.meterEvent_port]
    exact State.postIf_port_frame ..
  · rw [State.meterEvent_meter]; exact Meter.reading_frame ..
  · rw [State.meterEvent_book, State.meterEvent_meter, Meter.reading_taken _ _ within]
    exact ⟨rfl, rfl, rfl, rfl⟩
  · rw [State.meterEvent_book, State.meterEvent_meter]
    by_cases third : 3 ≤ s.meter.run ∧ s.meter.state ≠ .invalid
    · rw [Meter.reading_third _ outside third]
      obtain ⟨run, valid⟩ := third
      refine ⟨rfl, ?_, fun _ _ => ⟨rfl, rfl, ?_⟩⟩
      · rintro (few | invalid)
        · exact absurd run (not_le.mpr few)
        · exact absurd invalid valid
      · rw [State.meterBook_none]; simp
    · rw [Meter.reading_counts _ outside third]
      exact ⟨rfl, fun _ => ⟨rfl, rfl, s.meterBook_same rfl⟩, fun run valid => absurd ⟨run, valid⟩ third⟩
  · rw [State.meterEvent_meter] at changed; exact s.meterEvent_posts _ changed
  · rw [State.meterEvent_meter] at same; exact s.meterEvent_silent _ same

end Sys2Proof.Machine

/-! PROOFS. The statements about the ports' own events: requests turned away, the receiver, the transmitter, the
attention lines (R154 to R156, R161, R164, R165). -/

namespace Sys2Proof.Machine

/-! ### Every kind's row is a request of its kind (R155) -/

theorem exec_command (kind : RequestKind) (port : Port) (tag : Byte) (body : List Byte) (s : State) :
    exec (kind.command port tag body) s = requestOf kind port tag body s := by
  cases kind <;> rfl

theorem requestOf_eq_request (kind : RequestKind) (port : Port) (tag : Byte) (body : List Byte) :
    ∃ owner, ∀ s, requestOf kind port tag body s = request kind port tag body owner s := by
  cases kind <;> exact ⟨_, fun _ => rfl⟩

/-- A BUSY reply joins the transmitter, but for a fifth one that would wait (R155, R156). -/
theorem State.answerBusy_heard (s : State) (port : Port) (kind tag : Byte) :
    (s.heard port).setPort port (((s.heard port).port port).answerBusy kind tag) =
      if (s.port port).sending.isSome = true ∧ 4 ≤ ((s.port port).waiting.filter Reply.isBusy).length
      then s.setPort port { s.port port with receiver := .hunting false }
      else s.replied port ⟨kind, tag, .busy, .clear, []⟩ := by
  simp only [State.heard, State.setPort_port, State.setPort_setPort, PortState.answerBusy, Bool.and_eq_true,
    decide_eq_true_eq]
  split
  · rfl
  · unfold State.replied PortState.transmit
    dsimp only
    split <;> rfl

/-- Settles O8: the rows turned away, by the case of R155. -/
theorem requestsAreTurnedAwayInOrder : Obligations.RequestsAreTurnedAwayInOrder := by
  refine ⟨fun s kind port tag body running => ?_, fun s port kind tag body running => ?_⟩
  · obtain ⟨owner, row⟩ := requestOf_eq_request kind port tag body
    rw [exec_command, row]
    refine ⟨fun busy => ?_, request_not_on_port running, request_bad_length running⟩
    rw [request_busy running busy, State.answerBusy_heard]
    split <;> rfl
  · have row : exec (.unknownRequest port kind tag body) s = .next (s.unknownKind port kind tag) :=
      whenRunning_running _ running
    have service : ((s.heard port).port port).service = (s.port port).service := by simp [State.heard]
    rw [row, State.unknownKind, service]
    refine ⟨fun busy => ?_, fun idle => ?_⟩
    · rw [if_pos busy, State.answerBusy_heard]
      split <;> rfl
    · rw [if_neg (by simp [idle])]
      simp only [State.heard, State.send, State.setPort_port, State.setPort_setPort, State.replied,
        PortState.transmit, refusedReply]
      split <;> rfl

/-! ### The receiver (R154) -/

section Receiver

variable {s : State} {port : Port}

theorem exec_byte_hunting (running : s.running = true) {first : Bool}
    (hunting : (s.port port).receiver = .hunting first) (b : Byte) :
    exec (.portByteReceived port b) s =
      .next (s.putReceiver port (huntByte (s.arm (msCounts 50)) first b)) := by
  change execPortByteReceived port b s = _
  unfold execPortByteReceived
  simp only [running, hunting]
  rfl

theorem exec_byte_receiving (running : s.running = true) {bytes : List Byte} {silence : Timer}
    (receiving : (s.port port).receiver = .receiving bytes silence) (b : Byte) :
    exec (.portByteReceived port b) s = match judgeGathered (bytes ++ [b]) with
      | .incomplete => .next (s.putReceiver port (.receiving (bytes ++ [b]) (s.arm (msCounts 50))))
      | .discarded => .next (s.putReceiver port (.hunting false))
      | .request kind tag body => takeRequest port kind tag body s := by
  change execPortByteReceived port b s = _
  unfold execPortByteReceived
  simp only [running, receiving] <;> rfl

theorem field_head (length : Byte) (rest : List Byte) : field (length :: rest) 0 1 = length.toNat := by
  simp [field, readBytes]

theorem judgeGathered_incomplete {length : Byte} {rest : List Byte} (low : 2 ≤ length.toNat)
    (high : length.toNat ≤ 242) (short : rest.length < length.toNat + 2) :
    judgeGathered (length :: rest) = .incomplete := by
  unfold judgeGathered
  rw [field_head, if_neg (by omega), if_pos (by rw [List.length_cons]; omega)]

theorem judgeGathered_bad_length {length : Byte} (outside : length.toNat < 2 ∨ 242 < length.toNat)
    (rest : List Byte) : judgeGathered (length :: rest) = .discarded := by
  unfold judgeGathered
  rw [field_head, if_pos outside]

/-- The judgement of a frame gathered whole: its check decides. -/
theorem judgeGathered_whole {length kind tag : Byte} {body check : List Byte}
    (long : length.toNat = 2 + body.length) (fits : body.length ≤ 240) (checked : check.length = 2) :
    judgeGathered (length :: kind :: tag :: body ++ check) =
      if readBytes check ≠ (crc16 (length :: kind :: tag :: body)).toNat then .discarded
      else .request kind tag body := by
  have covered : (length :: kind :: tag :: body ++ check).take (length.toNat + 1)
      = length :: kind :: tag :: body := by
    rw [List.take_append_of_le_length (by simp; omega), List.take_of_length_le (by simp; omega)]
  have last : field (length :: kind :: tag :: body ++ check) (length.toNat + 1) 2 = readBytes check := by
    unfold field
    rw [List.drop_append_of_le_length (by simp; omega), List.drop_of_length_le (by simp; omega),
      List.nil_append, List.take_of_length_le (by omega)]
  unfold judgeGathered
  rw [List.cons_append, field_head, ← List.cons_append, if_neg (by omega),
    if_neg (by simp [checked]; omega), covered, last]

/-- Settles O9: each clause is the receiver's own equation. -/
theorem receiverGathersBytes : Obligations.ReceiverGathersBytes := by
  refine ⟨fun s port b running => ⟨fun first hunting => ?_, fun length rest silence receiving low high short => ?_⟩,
    fun s port bytes silence running receiving => ?_⟩
  · rw [exec_byte_hunting running hunting]
    unfold State.putReceiver huntByte
    simp only [Bool.and_eq_true, beq_iff_eq]
    split <;> rfl
  · rw [exec_byte_receiving running receiving, List.cons_append,
      judgeGathered_incomplete low high (by simp; omega)]
    rfl
  · have discard : (s.port port).discard = { s.port port with receiver := .hunting false } := by
      unfold PortState.discard
      rw [receiving]
    have one : ∀ c, (c = .requestDiscarded port ∨ c = .receiverSilence port) →
        exec c s = .next (s.setPort port (s.port port).discard) := by
      rintro c (rfl | rfl) <;>
        exact whenRunning_running (fun s => s.setPort port (s.port port).discard) running
    rw [one _ (.inl rfl), one _ (.inr rfl), discard]
    exact ⟨rfl, rfl⟩

/-! ### A frame, byte by byte -/

/-- The part while the port gathers the bytes after a start pair. -/
def State.gathering (s : State) (port : Port) (bytes : List Byte) : State :=
  s.putReceiver port (.receiving bytes (s.arm (msCounts 50)))

theorem State.putReceiver_running (r : Receiver) : (s.putReceiver port r).running = s.running :=
  State.setPort_running ..

theorem State.putReceiver_arm (r : Receiver) (n : Nat) : (s.putReceiver port r).arm n = s.arm n := by
  unfold State.putReceiver; cases port <;> rfl

theorem State.putReceiver_putReceiver (r r' : Receiver) :
    (s.putReceiver port r).putReceiver port r' = s.putReceiver port r' := by
  unfold State.putReceiver; simp

theorem State.putReceiver_receiver (r : Receiver) : ((s.putReceiver port r).port port).receiver = r := by
  unfold State.putReceiver; simp

/-- A request finds its port hunting, whatever the receiver held (R154). -/
theorem request_putReceiver (kind : RequestKind) (tag : Byte) (body : List Byte)
    (owner : State → State × Answer) (running : s.running = true) (r : Receiver) :
    request kind port tag body owner (s.putReceiver port r) = request kind port tag body owner s := by
  have heard : (s.putReceiver port r).heard port = s.heard port := by
    simp [State.heard, State.putReceiver]
  unfold request
  rw [whenRunning_running _ running, whenRunning_running _ ((State.putReceiver_running r).trans running)]
  unfold serve
  rw [heard]

theorem takeRequest_putReceiver (kind tag : Byte) (body : List Byte) (running : s.running = true)
    (r : Receiver) : takeRequest port kind tag body (s.putReceiver port r) =
      match RequestKind.ofCode kind with
      | some k => exec (k.command port tag body) s
      | none => exec (.unknownRequest port kind tag body) s := by
  unfold takeRequest
  cases RequestKind.ofCode kind with
  | some k =>
    obtain ⟨owner, row⟩ := requestOf_eq_request k port tag body
    change requestOf k port tag body (s.putReceiver port r) = exec (k.command port tag body) s
    rw [exec_command, row, row, request_putReceiver _ _ _ _ running]
  | none =>
    have heard : (s.putReceiver port r).heard port = s.heard port := by
      simp [State.heard, State.putReceiver]
    change whenRunning (State.unknownKind port kind tag) (s.putReceiver port r) =
      whenRunning (State.unknownKind port kind tag) s
    rw [whenRunning_running _ running, whenRunning_running _ ((State.putReceiver_running r).trans running)]
    unfold State.unknownKind
    rw [heard]

theorem runAll_cons (c : Instr) (rest : List Instr) {t : State} (next : exec c s = .next t) :
    runAll (c :: rest) s = runAll rest t := by
  simp only [runAll, next]

/-- The last command of a run gives its outcome. -/
theorem runAll_singleton (c : Instr) : runAll [c] s = exec c s := by
  unfold runAll
  cases exec c s <;> rfl

/-- The start pair makes a hunting receiver gather (R154). -/
theorem runAll_start (running : s.running = true) {first : Bool}
    (hunting : (s.port port).receiver = .hunting first) (rest : List Instr) :
    runAll (.portByteReceived port 0xC3#8 :: .portByteReceived port 0x3C#8 :: rest) s =
      runAll rest (s.gathering port []) := by
  have pair : huntByte (s.arm (msCounts 50)) first 0xC3#8 = .hunting true := by
    cases first <;> rfl
  rw [runAll_cons _ _ (exec_byte_hunting running hunting _), pair,
    runAll_cons _ _ (exec_byte_hunting ((State.putReceiver_running _).trans running)
      (State.putReceiver_receiver _) _), State.putReceiver_arm, State.putReceiver_putReceiver]
  rfl

/-- A byte while the port gathers: its judgement decides. -/
theorem exec_byte_gathering (running : s.running = true) (bytes : List Byte) (b : Byte) :
    exec (.portByteReceived port b) (s.gathering port bytes) = match judgeGathered (bytes ++ [b]) with
      | .incomplete => .next (s.gathering port (bytes ++ [b]))
      | .discarded => .next (s.putReceiver port (.hunting false))
      | .request kind tag body => takeRequest port kind tag body (s.gathering port bytes) := by
  have receiving : ((s.gathering port bytes).port port).receiver
      = .receiving bytes (s.arm (msCounts 50)) := State.putReceiver_receiver _
  rw [exec_byte_receiving (s := s.gathering port bytes) ((State.putReceiver_running _).trans running) receiving]
  unfold State.gathering
  simp only [State.putReceiver_arm, State.putReceiver_putReceiver] <;> rfl

/-- The bytes of a frame whose length fits gather one after another, up to the last. -/
theorem runAll_gathers (running : s.running = true) {length : Byte} (low : 2 ≤ length.toNat)
    (high : length.toNat ≤ 242) (more : List Instr) (l rest : List Byte)
    (short : rest.length + l.length < length.toNat + 2) :
    runAll (l.map (Instr.portByteReceived port) ++ more) (s.gathering port (length :: rest)) =
      runAll more (s.gathering port (length :: rest ++ l)) := by
  induction l generalizing rest with
  | nil => rw [List.append_nil]; rfl
  | cons b l ih =>
    rw [List.length_cons] at short
    have next : exec (.portByteReceived port b) (s.gathering port (length :: rest)) =
        .next (s.gathering port (length :: (rest ++ [b]))) := by
      rw [exec_byte_gathering running, List.cons_append, judgeGathered_incomplete low high (by simp; omega)]
    rw [List.map_cons, List.cons_append, runAll_cons _ _ next, ih _ (by simp; omega)]
    simp

/-- A frame with a fitting length and two check bytes ends in the judgement of its check. -/
theorem runAll_frame (running : s.running = true) {first : Bool}
    (hunting : (s.port port).receiver = .hunting first) (kind tag high low : Byte) {body : List Byte}
    (fits : body.length ≤ 240) :
    runAll (([0xC3#8, 0x3C#8] ++ (be 1 (2 + body.length) ++ [kind, tag] ++ body) ++ [high, low]).map
        (Instr.portByteReceived port)) s =
      if readBytes [high, low] ≠ (crc16 (be 1 (2 + body.length) ++ [kind, tag] ++ body)).toNat then
        .next (s.setPort port { s.port port with receiver := .hunting false })
      else match RequestKind.ofCode kind with
        | some k => exec (k.command port tag body) s
        | none => exec (.unknownRequest port kind tag body) s := by
  obtain ⟨length, one, long⟩ : ∃ length : Byte, be 1 (2 + body.length) = [length] ∧
      length.toNat = 2 + body.length :=
    ⟨BitVec.ofNat 8 (2 + body.length), by simp [be], by rw [BitVec.toNat_ofNat]; omega⟩
  have bytes : ([0xC3#8, 0x3C#8] ++ ([length] ++ [kind, tag] ++ body) ++ [high, low]).map
        (Instr.portByteReceived port) =
      .portByteReceived port 0xC3#8 :: .portByteReceived port 0x3C#8 :: .portByteReceived port length ::
        ((kind :: tag :: body ++ [high]).map (Instr.portByteReceived port) ++
          [.portByteReceived port low]) := by simp
  have start : exec (.portByteReceived port length) (s.gathering port []) =
      .next (s.gathering port [length]) := by
    rw [exec_byte_gathering running, List.nil_append,
      judgeGathered_incomplete (by omega) (by omega) (by simp)]
  rw [one, bytes, runAll_start running hunting, runAll_cons _ _ start,
    runAll_gathers running (by omega) (by omega) _ _ _ (by simp; omega), runAll_singleton,
    exec_byte_gathering running]
  have gathered : length :: [] ++ (kind :: tag :: body ++ [high]) ++ [low] =
      length :: kind :: tag :: body ++ [high, low] := by simp
  have covered : [length] ++ [kind, tag] ++ body = length :: kind :: tag :: body := by simp
  rw [gathered, judgeGathered_whole long fits rfl, covered]
  by_cases wrong : readBytes [high, low] ≠ (crc16 (length :: kind :: tag :: body)).toNat
  · rw [if_pos wrong, if_pos wrong]; rfl
  · rw [if_neg wrong, if_neg wrong]
    exact takeRequest_putReceiver kind tag body running _

end Receiver

/-- Settles O10: a frame gathers up to its last byte (`runAll_frame`), whose judgement is the request's own
row over the port the frame found, or the discard. -/
theorem byteStreamsRefineRequests : Obligations.ByteStreamsRefineRequests := by
  refine ⟨fun s port kind tag body first running hunting fits => ?_,
    fun s port kind tag high low length body first running hunting fits => ⟨fun outside => ?_, fun wrong => ?_⟩⟩
  · obtain ⟨high, low, check⟩ : ∃ high low : Byte,
        crcBytes (be 1 (2 + body.length) ++ [kind, tag] ++ body) = [high, low] := ⟨_, _, rfl⟩
    have right : readBytes [high, low] = (crc16 (be 1 (2 + body.length) ++ [kind, tag] ++ body)).toNat := by
      rw [← check, crcBytes, readBytes_be]
      exact Nat.mod_eq_of_lt (BitVec.isLt _)
    unfold requestBytes
    rw [check]
    exact (runAll_frame running hunting kind tag high low fits).trans (if_neg (not_not.mpr right))
  · have discarded : exec (.portByteReceived port length) (s.gathering port []) =
        .next (s.putReceiver port (.hunting false)) := by
      rw [exec_byte_gathering running, List.nil_append, judgeGathered_bad_length outside]
    exact (runAll_start running hunting _).trans ((runAll_singleton _).trans discarded)
  · rw [runAll_frame running hunting kind tag high low fits, if_pos]
    simpa [readBytes] using wrong

/-! ### The transmitter (R156) -/

theorem PortState.transmitted_eq (x : PortState) :
    x.transmitted = { x with sending := x.waiting.head?, waiting := x.waiting.tail } := by
  obtain ⟨receiver, service, sending, waiting⟩ := x
  cases waiting <;> rfl

theorem State.restarting_iff (s : State) :
    s.restarting = true ↔ ∃ v, s.market.service = some v ∧ v.kind = .restart := by
  unfold State.restarting
  cases s.market.service <;> simp

/-- Settles O11: a reply that is not the RESTART's own starts the next that waits. -/
theorem repliesLeaveInOrder : Obligations.RepliesLeaveInOrder := by
  intro s port running plain
  have other : s.sendingRestart port = false := by
    rw [← Bool.not_eq_true]
    unfold State.sendingRestart
    rw [Bool.and_eq_true, Bool.and_eq_true, beq_iff_eq, State.restarting_iff]
    rintro ⟨⟨rfl, v, service, restart⟩, done⟩
    rcases plain with market | idle | sent
    · cases market
    · exact idle v service restart
    · split at done
      case h_1 r sending =>
        rw [Bool.and_eq_true, beq_iff_eq, beq_iff_eq] at done
        obtain ⟨kind, outcome⟩ := done
        exact (sent r sending).elim (absurd kind) (absurd outcome)
      case h_2 => cases done
  refine (whenRunning_running (fun s => if s.sendingRestart port then s.startUp
    else s.setPort port (s.port port).transmitted) running).trans ?_
  simp only [other, PortState.transmitted_eq, Bool.false_eq_true, if_false]

/-! ### The attention lines (R161, R164, R165) -/

theorem hasNotice_or_mask (set : NoticeSet) (k j : Notice) :
    hasNotice (set ||| k.mask) j = (hasNotice set j || j == k) := by
  cases k <;> cases j <;> simp [hasNotice, Notice.mask, Notice.bit]

section Post

variable {x : PortState} {enables : NoticeSet} {k : Notice}

theorem PortState.post_level (new : hasNotice x.notices k = false) : x.post false enables k =
    { x with notices := x.notices ||| k.mask, line := (x.notices ||| k.mask) &&& enables != 0 } := by
  unfold PortState.post
  rw [if_neg (by simp [new])]
  rfl

theorem PortState.post_masked (new : hasNotice x.notices k = false) (masked : hasNotice enables k = false) :
    x.post true enables k = { x with notices := x.notices ||| k.mask } := by
  unfold PortState.post
  rw [if_neg (by simp [new])]
  simp [masked]

theorem PortState.post_pulse (new : hasNotice x.notices k = false) (enabled : hasNotice enables k = true) :
    x.post true enables k =
      if x.line = true ∨ x.gap = true then
        { x with notices := x.notices ||| k.mask, owed := min 15 (x.owed + 1) }
      else { x with notices := x.notices ||| k.mask, line := true } := by
  unfold PortState.post PortState.owePulse
  rw [if_neg (by simp [new])]
  simp only [enabled, if_true, Bool.or_eq_true]

end Post

/-- Settles O12: the posting by the mode of the line and the enable of the kind, and the timer's own equation. -/
theorem attentionPulsesAndPostings : Obligations.AttentionPulsesAndPostings := by
  refine ⟨fun s k port => ⟨s.post_eq k, fun foreign => ?_, fun carries pending => ?_, fun carries new => ?_⟩,
    fun s port running pulse => ?_⟩
  · rw [State.post_port, if_neg (by simp [foreign])]
  · rw [State.post_port, if_pos carries, PortState.post_pending pending]
  · rw [State.post_port, if_pos carries]
    obtain ⟨_, rfl, frame⟩ := PortState.post_eq (s.port port) (s.profile.pulseMode port) (s.profile.enables port) k
    refine ⟨_, rfl, frame, ?_⟩
    cases pulse : s.profile.pulseMode port with
    | false =>
      rw [PortState.post_level new]
      exact ⟨hasNotice_or_mask _ k, fun _ => ⟨rfl, rfl⟩, nofun, nofun⟩
    | true =>
      cases enabled : hasNotice (s.profile.enables port) k with
      | false =>
        rw [PortState.post_masked new enabled]
        exact ⟨hasNotice_or_mask _ k, nofun, fun _ _ => ⟨rfl, rfl⟩, nofun⟩
      | true =>
        rw [PortState.post_pulse new enabled]
        refine ⟨fun j => ?_, nofun, nofun, fun _ _ => ?_⟩
        · split <;> exact hasNotice_or_mask _ k j
        · split
          · exact ⟨rfl, rfl⟩
          · exact ⟨rfl, rfl⟩
  · refine (whenRunning_running (fun s => if s.profile.pulseMode port then s.setPort port (s.port port).pulseTimer
      else s) running).trans ?_
    simp only [pulse, if_true]
    unfold PortState.pulseTimer
    rfl

end Sys2Proof.Machine

/-! PROOFS. The statements about the fleet link: the indices of a round, the visit's phases, the ends of AWAITING,
and what a visit does to the unit's record (R27 to R37, R124 to R135). -/

namespace Sys2Proof.Machine

/-! ### The indices of a round (R126) -/

theorem walkOrder_length {start : Nat} (low : 1 ≤ start) (high : start ≤ 240) :
    (walkOrder start).length = 240 := by
  simp only [walkOrder, List.length_append, List.length_range']
  omega

theorem walkOrder_nodup (start : Nat) : (walkOrder start).Nodup := by
  refine List.nodup_append.mpr ⟨List.nodup_range', List.nodup_range', fun a first b second same => ?_⟩
  rw [List.mem_range'_1] at first second
  omega

theorem walkOrder_getElem? {start k : Nat} (low : 1 ≤ start) (high : start ≤ 240) (inRound : k < 240) :
    (walkOrder start)[k]? = some ((start - 1 + k) % 240 + 1) := by
  unfold walkOrder
  by_cases first : k < 241 - start
  · rw [List.getElem?_append_left (by simpa using first), List.getElem?_range' first,
      Nat.mod_eq_of_lt (by omega)]
    congr 1; omega
  · have second : (List.range' 1 (start - 1))[k - (241 - start)]? = some (1 + 1 * (k - (241 - start))) :=
      List.getElem?_range' (by omega)
    have around : 1 + 1 * (k - (241 - start)) = (start - 1 + k) % 240 + 1 := by omega
    rw [List.getElem?_append_right (by simpa using first), List.length_range', ← around]
    exact second

/-- The indices ahead of the walk's position are those the round lists after it. -/
theorem Link.ahead_splits {l : Link} {p : Nat} (at_ : l.position = some p) (listed : p ∈ walkOrder l.startIndex) :
    ∃ done, walkOrder l.startIndex = done ++ p :: l.ahead := by
  obtain ⟨done, rest, whole⟩ := List.append_of_mem listed
  have once := walkOrder_nodup l.startIndex
  rw [whole] at once
  have before : ∀ a ∈ done, (a != p) = true := fun a mem =>
    bne_iff_ne.mpr ((List.nodup_append.mp once).2.2 a mem p List.mem_cons_self)
  have ahead : l.ahead = rest := by
    unfold Link.ahead
    rw [at_]
    dsimp only
    rw [whole, List.dropWhile_append_of_pos before]
    simp
  exact ⟨done, by rw [ahead, whole]⟩

/-- Settles O52: the two ranges of `walkOrder` together are 240 indices, each once. -/
theorem roundsPassEachIndexOnce : Obligations.RoundsPassEachIndexOnce := by
  intro start low high
  refine ⟨?_, walkOrder_length low high, walkOrder_nodup start, fun k inRound =>
    walkOrder_getElem? low high inRound, fun a => mem_walkOrder low high, fun l p begins at_ listed => ?_⟩
  · rw [List.head?_eq_getElem?, walkOrder_getElem? low high (by omega), Nat.mod_eq_of_lt (by omega)]
    congr 1; omega
  · subst begins
    obtain ⟨done, whole⟩ := Link.ahead_splits at_ listed
    have once := walkOrder_nodup l.startIndex
    rw [whole] at once
    exact ⟨(List.nodup_cons.mp (List.nodup_append.mp once).2.1).1, done, whole⟩

/-! ### The visit's phases (R124, R126 to R129, R135) -/

section Visits

variable {s : State}

theorem visited_eq (f : Fleet) (round : Nat) :
    visited f round = fun b => (Fleet.get f b).any fun w => w.link != .lost || round % 10 == 0 := by
  funext b
  unfold visited
  cases Fleet.get f b <;> rfl

/-- The evaluation and the delivered sum leave the link. -/
theorem State.taken_link (s : State) : s.evaluate.updateDelivered.link = s.link := by
  obtain ⟨_, rfl, frame, -, -⟩ := s.evaluate_eq
  rw [State.updateDelivered_eq, frame]

/-- The first step of a walk keeps the round's own figures. -/
theorem State.startWalk_round (s : State) : s.startWalk.link.roundTimer = s.link.roundTimer ∧
    s.startWalk.link.round = s.link.round ∧ s.startWalk.link.startIndex = s.link.startIndex := by
  unfold State.startWalk
  split
  · unfold State.beginVisit
    split <;> exact ⟨rfl, rfl, rfl⟩
  · exact ⟨rfl, rfl, rfl⟩

theorem State.beginVisit_eq {a : Nat} {u : UnitRecord} (found : Fleet.get s.fleet a = some u) :
    s.beginVisit a = { s with link := (s.beginVisit a).link } := by
  unfold State.beginVisit; rw [found]

/-- A round's completion does not read the round timer. -/
theorem State.completeRound_timer (s : State) (timer : Option Timer) :
    State.completeRound { s with link := { s.link with roundTimer := timer } } = s.completeRound := by
  unfold State.completeRound; rfl

/-- A round's completion begins the next round (R128). -/
theorem State.completeRound_round (s : State) : s.completeRound.link.roundTimer = some ⟨s.time, 2000000⟩ ∧
    s.completeRound.link.round = (if s.link.round < 4294967295 then s.link.round + 1 else 0) ∧
    s.completeRound.link.startIndex = (if s.link.startIndex < 240 then s.link.startIndex + 1 else 1) := by
  rw [State.completeRound_eq]
  obtain ⟨timer, round, start⟩ :=
    (s.evaluate.updateDelivered.withRound (s.arm (msCounts 200))).startWalk_round
  refine ⟨timer, round.trans ?_, start.trans ?_⟩
  · unfold State.withRound maxWord
    dsimp only
    rw [State.taken_link]
    split <;> split <;> omega
  · unfold State.withRound advanceIndex
    dsimp only
    rw [State.taken_link]
    split <;> split <;> omega

/-- Settles O49: each event by the phase it meets; the end of QUIET by what the walk finds ahead. -/
theorem visitPhasesAdvance : Obligations.VisitPhasesAdvance := by
  refine ⟨⟨fun s v running sending visit => ?_, fun s wait bound running quiet => ?_⟩,
    fun s timer running armed => ⟨fun walking => ?_, fun pacing => ?_⟩,
    fun s wait bound running quiet => ⟨fun a u next found => ?_, fun none_ armed => ?_⟩⟩
  · refine (whenRunning_running State.frameSent running).trans (congrArg _ ?_)
    simp only [State.frameSent, sending, visit]
    rfl
  · refine (whenRunning_running State.quietCharacter running).trans (congrArg _ ?_)
    simp only [State.quietCharacter, quiet]
    rfl
  · refine (whenRunning_running State.roundExpiry running).trans (congrArg _ ?_)
    unfold State.roundExpiry
    rw [armed]
    dsimp only
    split
    · exact absurd ‹_› walking
    · rfl
  · have completes : exec .roundTimerExpiry s = .next s.completeRound := by
      refine (whenRunning_running State.roundExpiry running).trans (congrArg _ ?_)
      unfold State.roundExpiry
      rw [armed]
      dsimp only
      split
      · exact s.completeRound_timer none
      · exact absurd pacing ‹_›
    exact ⟨_, completes, s.completeRound_round⟩
  · rw [← visited_eq] at next
    refine (whenRunning_running State.quietEnd running).trans (congrArg _ ?_)
    have walks : s.quietEnd = s.beginVisit a := by
      simp only [State.quietEnd, quiet, State.walk, State.nextVisit, next]
    rw [walks, State.beginVisit_eq found, State.beginVisit_link found]
    have differs : ∀ x : Int, (x != 0) = decide (x ≠ 0) := fun x => by
      rw [Bool.eq_iff_iff, bne_iff_ne, decide_eq_true_iff]
    simp only [setpointFrame, differs, State.episodeOpen]
  · rw [← visited_eq] at none_
    refine (whenRunning_running State.quietEnd running).trans (congrArg _ ?_)
    have waits : s.link.roundTimer.isNone = false := by rw [Option.isNone_eq_false_iff]; exact armed
    simp only [State.quietEnd, quiet, State.walk, State.nextVisit, none_, waits, Bool.false_eq_true, if_false]
    rfl

end Visits

/-! ### The checks of a report frame (R131) -/

theorem frameComplete_iff (frame : List Byte) : frameComplete frame = true ↔
    field frame 0 1 = frame.length ∧ 20 ≤ frame.length ∧ frame.length ≤ 64 := by
  unfold frameComplete; exact decide_eq_true_iff

/-- The last two bytes of a frame are its check field. -/
theorem readBytes_check {frame : List Byte} (long : 2 ≤ frame.length) :
    readBytes (frame.drop (frame.length - 2)) = field frame (frame.length - 2) 2 := by
  unfold field
  rw [List.take_of_length_le (by rw [List.length_drop]; omega)]

/-- The holds' bytes lie between the hold count and the check. -/
theorem holdBytes_eq (frame : List Byte) :
    (frame.take (frame.length - 2)).drop 18 = (frame.drop 18).take (frame.length - 20) := by
  rw [List.drop_take]; rfl

section Judge

variable {address : Nat} {frame : List Byte}

theorem judgeFrame_badCheck (long : 2 ≤ frame.length)
    (wrong : field frame (frame.length - 2) 2 ≠ (crc16 (frame.take (frame.length - 2))).toNat) :
    judgeFrame address frame = .error .badCheck := by
  unfold judgeFrame
  rw [readBytes_check long]
  exact if_pos wrong

/-- A frame whose check matches is judged by its type, its address and its holds. -/
theorem judgeFrame_checked (long : 2 ≤ frame.length)
    (right : field frame (frame.length - 2) 2 = (crc16 (frame.take (frame.length - 2))).toNat) :
    judgeFrame address frame =
      if field frame 1 1 ≠ 2 then .error .malformed
      else if field frame 2 1 ≠ address then .error .wrongAddress
      else if 4 < field frame 17 1 then .error .malformed
      else ((readHolds (field frame 17 1) ((frame.drop 18).take (frame.length - 20))).elim (.error .malformed)
        fun holds => .ok ⟨reportFields frame, holds⟩) := by
  unfold judgeFrame
  rw [readBytes_check long]
  dsimp only
  rw [if_neg (not_not.mpr right), holdBytes_eq]
  cases readHolds (field frame 17 1) ((frame.drop 18).take (frame.length - 20)) <;> rfl

end Judge

theorem judgeFrame_inOrder (address n : Nat) (frame holdBytes : List Byte) (complete : frameComplete frame = true)
    (size : n = frame.length) (holds_ : holdBytes = (frame.drop 18).take (n - 20)) :
    (field frame (n - 2) 2 ≠ (crc16 (frame.take (n - 2))).toNat →
      judgeFrame address frame = .error .badCheck) ∧
    (field frame (n - 2) 2 = (crc16 (frame.take (n - 2))).toNat →
      (field frame 1 1 ≠ 2 → judgeFrame address frame = .error .malformed) ∧
      (field frame 1 1 = 2 → field frame 2 1 ≠ address → judgeFrame address frame = .error .wrongAddress) ∧
      (field frame 1 1 = 2 → field frame 2 1 = address →
        ((4 < field frame 17 1 ∨
            ∀ holds : List Hold, holds.length = field frame 17 1 → ¬CarriesHolds holdBytes holds) →
          judgeFrame address frame = .error .malformed) ∧
        ∀ holds : List Hold, field frame 17 1 ≤ 4 → holds.length = field frame 17 1 →
          CarriesHolds holdBytes holds →
          judgeFrame address frame = .ok ⟨reportFields frame, holds⟩)) := by
  subst size holds_
  obtain ⟨-, long, -⟩ := (frameComplete_iff frame).mp complete
  refine ⟨judgeFrame_badCheck (by omega), fun right => ?_⟩
  rw [judgeFrame_checked (by omega) right]
  refine ⟨fun kind => if_pos kind, fun kind address => ?_, fun kind address => ⟨fun bad => ?_,
    fun holds few size carried => ?_⟩⟩
  · rw [if_neg (not_not.mpr kind), if_pos address]
  · rw [if_neg (not_not.mpr kind), if_neg (not_not.mpr address)]
    split
    · rfl
    · rename_i few
      have none_ : readHolds (field frame 17 1) ((frame.drop 18).take (frame.length - 20)) = none := by
        refine Option.eq_none_iff_forall_ne_some.mpr fun holds read => ?_
        obtain ⟨size, carried⟩ := (readHolds_iff _ _ _).mp read
        exact (bad.resolve_left few) holds size carried
      rw [none_]; rfl
  · rw [if_neg (not_not.mpr kind), if_neg (not_not.mpr address), if_neg (by omega),
      (readHolds_iff _ _ holds).mpr ⟨size, carried⟩]
    rfl

/-! ### The ends of AWAITING (R130, R132 to R135) -/

section Awaiting

variable {s : State} {timeout : Timer} {v : Visit}

theorem State.takeOutcome_time (s : State) (v : Visit) (outcome : Except FailureCause CarriedReport) :
    (s.takeOutcome v outcome).time = s.time := by
  unfold State.takeOutcome
  split
  · rfl
  · split
    · obtain ⟨_, rfl, frame, -⟩ := s.takeReport_eq v.address ‹_›
      rw [frame]
    · obtain ⟨_, rfl, frame, -⟩ := s.takeFailure_eq v.address
      rw [frame]

/-- QUIET as a visit of some state ends in it, over what its outcome leaves. -/
def State.quietAfter (s : State) (v : Visit) (u : State) (buffer : List Byte) : State :=
  { u with link := { s.link with
      phase := .quiet ⟨s.time, 1000⟩ ⟨s.time, 10000⟩, visit := some { v with buffer := buffer } } }

theorem State.endAwaiting_eq (awaiting : s.link.phase = .awaiting timeout) (visit : s.link.visit = some v)
    (buffer : List Byte) (judge : Visit → Except FailureCause CarriedReport) :
    s.endAwaiting buffer judge = s.quietAfter v (s.takeOutcome v (judge v)) buffer := by
  simp only [State.endAwaiting, awaiting, visit, State.enterQuiet, State.quietAfter, State.takeOutcome_link,
    State.arm, State.takeOutcome_time, Option.map_some]
  rfl

theorem exec_replyTimeout (running : s.running = true) (awaiting : s.link.phase = .awaiting timeout)
    (visit : s.link.visit = some v) :
    exec .replyTimeout s = .next (s.quietAfter v (s.takeOutcome v (.error .timeout)) []) :=
  (whenRunning_running State.replyExpiry running).trans (congrArg _ (State.endAwaiting_eq awaiting visit _ _))

theorem exec_reportLengthInvalid (running : s.running = true) (awaiting : s.link.phase = .awaiting timeout)
    (visit : s.link.visit = some v) {length : Byte} (outside : length.toNat < 20 ∨ 64 < length.toNat) :
    exec (.reportLengthInvalid length) s =
      .next (s.quietAfter v (s.takeOutcome v (.error .malformed)) [length]) := by
  refine (whenRunning_running (State.lengthInvalid length) running).trans (congrArg _ ?_)
  unfold State.lengthInvalid
  rw [if_neg (by omega), State.endAwaiting_eq awaiting visit]

theorem exec_reportFrameReceived (running : s.running = true) (awaiting : s.link.phase = .awaiting timeout)
    (visit : s.link.visit = some v) {frame : List Byte} (complete : frameComplete frame = true) :
    exec (.reportFrameReceived frame) s =
      .next (s.quietAfter v (s.takeOutcome v (judgeFrame v.address frame)) frame) := by
  refine (whenRunning_running (State.frameReceived frame) running).trans (congrArg _ ?_)
  rw [← State.endAwaiting_eq awaiting visit frame fun v => judgeFrame v.address frame]
  simp only [State.frameReceived, complete, awaiting, Bool.not_true, Bool.false_eq_true, if_false]

theorem State.takeOutcome_removed (removed : v.removed = true) (outcome : Except FailureCause CarriedReport) :
    s.takeOutcome v outcome = s := if_pos removed

theorem State.takeOutcome_failed (kept : v.removed = false) (cause : FailureCause) :
    s.takeOutcome v (.error cause) = s.takeFailure v.address := if_neg (by simp [kept])

theorem State.takeOutcome_good (kept : v.removed = false) (report : CarriedReport) :
    s.takeOutcome v (.ok report) = s.takeReport v.address report := if_neg (by simp [kept])

end Awaiting

/-- Settles O50: the checks in their order, and each end of AWAITING as its outcome and the QUIET after it. -/
theorem awaitingEndsWithItsOutcome : Obligations.AwaitingEndsWithItsOutcome := by
  refine ⟨⟨frameComplete_iff, judgeFrame_inOrder⟩, fun s timeout v running awaiting visit =>
    ⟨s.quietAfter v, fun _ _ => rfl, fun removed => ⟨?_, fun length outside => ?_, fun frame complete => ?_⟩,
      fun kept => ⟨?_, fun length outside => ?_, fun frame cause complete judged => ?_,
        fun frame report complete judged => ?_⟩⟩⟩
  · rw [exec_replyTimeout running awaiting visit, State.takeOutcome_removed removed]
  · rw [exec_reportLengthInvalid running awaiting visit outside, State.takeOutcome_removed removed]
  · rw [exec_reportFrameReceived running awaiting visit complete, State.takeOutcome_removed removed]
  · rw [exec_replyTimeout running awaiting visit, State.takeOutcome_failed kept]
  · rw [exec_reportLengthInvalid running awaiting visit outside, State.takeOutcome_failed kept]
  · rw [exec_reportFrameReceived running awaiting visit complete, judged, State.takeOutcome_failed kept]
  · rw [exec_reportFrameReceived running awaiting visit complete, judged, State.takeOutcome_good kept]

end Sys2Proof.Machine

/-! PROOFS. What a visit does to the unit's record (R27 to R33, R35, R37). -/

namespace Sys2Proof.Machine

/-! ### A unit that leaves LIVE (R29, R37) -/

theorem UnitRecord.leaveLive_test {u : UnitRecord} {t : TestRecord} (mode : u.mode = .test t) :
    u.leaveLive = { u with
      setpoint := 0, participation := 0, restoration := 0, baseline := none
      mode := .plain t.prior, lastTest := some .aborted } := by
  simp only [UnitRecord.leaveLive, UnitRecord.abortTest, UnitRecord.zeroed, mode]

theorem UnitRecord.leaveLive_plain {u : UnitRecord} {m : EnrolMode} (mode : u.mode = .plain m) :
    u.leaveLive = { u with setpoint := 0, participation := 0, restoration := 0, baseline := none } := by
  simp only [UnitRecord.leaveLive, UnitRecord.abortTest, UnitRecord.zeroed, mode]

/-- What leaving LIVE keeps and what it clears, whatever the mode. -/
theorem UnitRecord.leaveLive_frame (u : UnitRecord) : u.leaveLive = { u with
    setpoint := 0, participation := 0, restoration := 0, baseline := none
    mode := u.leaveLive.mode, lastTest := u.leaveLive.lastTest } := by
  cases mode : u.mode with
  | test t => rw [UnitRecord.leaveLive_test mode]
  | plain m => rw [UnitRecord.leaveLive_plain mode]

/-! ### A failed visit (R28, R29) -/

section FailedVisit

variable (u : UnitRecord) (stale lost : Nat)

/-- The record with one miss more and the link state it gives (R28). -/
def UnitRecord.missed : UnitRecord :=
  { u with
    misses := min 255 (u.misses + 1), link := nextLink stale lost (min 255 (u.misses + 1)) u.link }

theorem UnitRecord.failVisit_eq : u.failVisit stale lost =
    if u.link = .live ∧ (u.missed stale lost).link ≠ .live then (u.missed stale lost).leaveLive
    else u.missed stale lost := rfl

theorem UnitRecord.failVisit_link : (u.failVisit stale lost).link = (u.missed stale lost).link := by
  rw [UnitRecord.failVisit_eq]
  split
  · rw [UnitRecord.leaveLive_frame]
  · rfl

/-- A failed visit of a unit that does not leave LIVE changes the miss count and the link state alone. -/
theorem UnitRecord.failVisit_counts (stays : u.link ≠ .live ∨ (u.failVisit stale lost).link = .live) :
    u.failVisit stale lost = u.missed stale lost := by
  rw [UnitRecord.failVisit_link] at stays
  rw [UnitRecord.failVisit_eq, if_neg]
  rintro ⟨live, leaves⟩
  exact stays.elim (absurd live) leaves

theorem UnitRecord.failVisit_leaves (live : u.link = .live) (leaves : (u.failVisit stale lost).link ≠ .live) :
    u.failVisit stale lost = (u.missed stale lost).leaveLive := by
  rw [UnitRecord.failVisit_link] at leaves
  rw [UnitRecord.failVisit_eq, if_pos ⟨live, leaves⟩]

/-- What every failed visit keeps. -/
theorem UnitRecord.failVisit_frame : (u.failVisit stale lost).misses = min 255 (u.misses + 1) ∧
    (u.failVisit stale lost).report = u.report ∧ (u.failVisit stale lost).holds = u.holds ∧
    (u.failVisit stale lost).g = u.g ∧ (u.failVisit stale lost).bars = u.bars := by
  rw [UnitRecord.failVisit_eq]
  split
  · rw [UnitRecord.leaveLive_frame]; exact ⟨rfl, rfl, rfl, rfl, rfl⟩
  · exact ⟨rfl, rfl, rfl, rfl, rfl⟩

/-- A running test ends exactly where the unit leaves LIVE (R29). -/
theorem UnitRecord.failVisit_aborts : (u.inTest && !(u.failVisit stale lost).inTest) =
    (u.inTest && u.link == .live && (u.failVisit stale lost).link != .live) := by
  by_cases leaves : u.link = .live ∧ (u.failVisit stale lost).link ≠ .live
  · obtain ⟨live, away⟩ := leaves
    have ended : (u.failVisit stale lost).inTest = false := by
      rw [UnitRecord.failVisit_leaves u stale lost live away]
      exact UnitRecord.abortTest_inTest _
    simp [ended, live, away]
  · have stays : u.link ≠ .live ∨ (u.failVisit stale lost).link = .live := by
      rwa [not_and_or, not_not] at leaves
    have kept : (u.failVisit stale lost).inTest = u.inTest := by
      rw [UnitRecord.failVisit_counts u stale lost stays]; rfl
    rw [kept]
    rcases stays with away | live
    · simp [away]
    · simp [live]

end FailedVisit

/-! ### A good report (R27, R31 to R33, R35) -/

/-- A hold as taken: a floor above the capacity is taken as the capacity (R32). -/
theorem takeHolds_eq (capacity : Nat) (holds : List Hold) : takeHolds capacity holds =
    (holds.filter fun h => decide (h.start ≤ h.stop)).map fun h => match h.kind with
      | .withdraw => h
      | .floor e => ⟨h.start, h.stop, .floor (min e capacity)⟩ := by
  unfold takeHolds
  exact List.map_congr_left fun h _ => by cases h.kind <;> rfl

/-- A hold taken ends no earlier than it starts, its floor within the capacity. -/
theorem takeHolds_lawful {capacity : Nat} {holds : List Hold} {h : Hold} (taken : h ∈ takeHolds capacity holds) :
    h.start ≤ h.stop ∧ ∀ e, h.kind = .floor e → e ≤ capacity := by
  rw [takeHolds_eq] at taken
  obtain ⟨carried, kept, rfl⟩ := List.mem_map.mp taken
  obtain ⟨-, ordered⟩ := List.mem_filter.mp kept
  rw [decide_eq_true_iff] at ordered
  split
  · rename_i withdraw
    exact ⟨ordered, fun e floor => by rw [withdraw] at floor; cases floor⟩
  · exact ⟨ordered, fun e floor => by cases floor; exact Nat.min_le_right _ _⟩

/-- Settles O51: the record by the link state the visit gives, and the Fleet Table's own writing of it. -/
theorem visitOutcomesMoveTheRecord : Obligations.VisitOutcomesMoveTheRecord := by
  refine ⟨fun u stale lost carried => ⟨?_, carried.report.clamped, rfl, rfl, rfl, rfl, rfl, rfl, rfl, rfl, rfl, rfl,
    rfl, ?_, takeHolds_eq _ _, fun h taken => takeHolds_lawful taken, fun m mode => ?_, fun t mode => ?_⟩,
    fun s a carried => ⟨fun vacant => ?_, fun u found => ⟨_, _, rfl, rfl, ?_, ?_⟩⟩⟩
  · obtain ⟨misses, report, holds, g, bars⟩ := u.failVisit_frame stale lost
    refine ⟨misses, report, holds, g, bars, ?_, fun live away => ?_, fun stays => ?_⟩
    · rw [UnitRecord.failVisit_link]
      cases link : u.link <;> simp only [UnitRecord.missed, link, nextLink]
    · rw [UnitRecord.failVisit_leaves u stale lost live away]
      have frame := (u.missed stale lost).leaveLive_frame
      refine ⟨by rw [frame], by rw [frame], by rw [frame], by rw [frame], UnitRecord.abortTest_inTest _,
        by rw [frame]; rfl, fun t mode => ?_, fun m mode => ?_⟩
      · rw [UnitRecord.leaveLive_test (u := u.missed stale lost) mode]
        exact ⟨rfl, rfl⟩
      · rw [UnitRecord.leaveLive_plain (u := u.missed stale lost) mode]
        exact ⟨rfl, rfl⟩
    · rw [UnitRecord.failVisit_counts u stale lost stays]; rfl
  · simp only [UnitRecord.takeReport, Report.clamped]
    congr 1
    rw [Bool.eq_iff_iff, bne_iff_ne, decide_eq_true_iff]
  · simp only [UnitRecord.takeReport, mode]
  · simp only [UnitRecord.takeReport, mode, TestRecord.count1]
  · simp only [State.takeFailure, State.takeReport, vacant]
    exact ⟨trivial, trivial⟩
  · simp only [State.takeFailure, found, UnitRecord.failVisit_aborts]
    rfl
  · simp only [State.takeReport, found]
    have live : (LinkState.live != u.link) = (u.link != .live) := bne_comm
    have link : (u.takeReport carried).link = .live := rfl
    rw [link, live]
    rfl

end Sys2Proof.Machine

/-! PROOFS. The statements about the analog channels, the thermal model, the operator target and the TRIG phases
(R73 to R76, R84, R85, R87, R90, R92, R97 to R103). -/

namespace Sys2Proof.Machine

/-! ### The analog channels (R73 to R76) -/

theorem Analog.get_put (a : Analog) (c d : Channel) (r : ChannelRecord) :
    (a.put c r).get d = if d = c then r else a.get d := by
  cases c <;> cases d <;> rfl

/-- The conversions outstanding are no channel's record. -/
theorem Analog.get_converting (a : Analog) (rest : List Channel) (d : Channel) :
    Analog.get { a with converting := rest } d = a.get d := by
  cases d <;> rfl

theorem State.startSet_get (s : State) (c : Channel) : s.startSet.analog.get c =
    if s.startSet.analog.converting.contains c then s.analog.get c else ⟨0, 0, false, false⟩ := by
  cases c <;> rfl

theorem State.convert_eq {s : State} {c : Channel} {rest : List Channel} (next : s.analog.converting = c :: rest)
    (code : Code) : State.convert code s = { s with
      analog := { s.analog.put c (convertedRecord s.profile c code) with converting := rest } } := by
  unfold State.convert
  rw [next]

/-- The enabled channels, in conversion order (R73). -/
theorem enabledChannels_eq (p : Profile) : enabledChannels p =
    [Channel.ia, .ib, .ic, .pnet].filter fun c => (p.nat .channelEnables).testBit c.bit := by
  unfold enabledChannels
  simp only [List.filter_cons, List.filter_nil, Channel.bit]
  split_ifs <;> rfl

theorem overRange_eq (code : Code) :
    (code == 0 || code == 4095#12) = decide (code.toNat = 0 ∨ code.toNat = 4095) := by
  have least : code = 0 ↔ code.toNat = 0 := BitVec.toNat_inj.symm
  have greatest : code = 4095#12 ↔ code.toNat = 4095 := BitVec.toNat_inj.symm
  rw [Bool.eq_iff_iff, Bool.or_eq_true, beq_iff_eq, beq_iff_eq, decide_eq_true_iff, least, greatest]

/-- The upper clamp of R75 never binds: the greatest code is the full scale. -/
theorem powerValue_eq (code : Code) {scale : Int} (positive : 0 ≤ scale) :
    clamp ((((code.toNat : Int) - 2048) * scale).tdiv 2047) (-scale) scale =
      max (-scale) ((((code.toNat : Int) - 2048) * scale).tdiv 2047) := by
  have fits : (((code.toNat : Int) - 2048) * scale).tdiv 2047 ≤ scale := by
    have top : (code.toNat : Int) - 2048 ≤ 2047 := by have := code.isLt; omega
    calc (((code.toNat : Int) - 2048) * scale).tdiv 2047
      _ ≤ (2047 * scale).tdiv 2047 := Int.tdiv_le_tdiv (by decide) (mul_le_mul_of_nonneg_right top positive)
      _ = scale := Int.mul_tdiv_cancel_left _ (by decide)
  rw [clamp_eq_max_min (by omega)]
  omega

/-- Settles O39: a set's start and a completion, each by its own equation. -/
theorem conversionsWriteTheChannels : Obligations.ConversionsWriteTheChannels := by
  refine ⟨fun s running => ⟨_, whenRunning_running State.startSet running, rfl, rfl, ?_, s.startSet_get⟩,
    fun s code c rest running next => ⟨_, whenRunning_running (State.convert code) running, ?_⟩⟩
  · exact enabledChannels_eq _
  · rw [State.convert_eq next]
    have read : ∀ d, Analog.get { s.analog.put c (convertedRecord s.profile c code) with converting := rest } d =
        if d = c then convertedRecord s.profile c code else s.analog.get d := fun d => by
      rw [Analog.get_converting, Analog.get_put]
    have own := read c
    rw [if_pos rfl] at own
    refine ⟨rfl, rfl, ?_, fun d other => (read d).trans (if_neg other), ?_⟩
    · cases c <;> rfl
    · rw [own]
      refine ⟨rfl, rfl, ?_, fun current => ?_, fun power positive => ?_⟩
      · exact overRange_eq code
      · cases c
        case pnet => exact absurd rfl current
        all_goals rfl
      · subst power; exact powerValue_eq code positive

/-! ### The thermal model (R97 to R103) -/

section Thermal

variable (s : State)

/-- The model after the update of the moment. -/
def State.nextThermal : Thermal := s.thermal.updated s.profile s.analog ⟨s.time, 10000000⟩

theorem State.thermalUpdate_eq : s.thermalUpdate = { s with
    thermal := s.nextThermal
    market := (s.postIf (s.nextThermal.zone != s.thermal.zone) .thermal).market
    operator := (s.postIf (s.nextThermal.zone != s.thermal.zone) .thermal).operator } := by
  have posted : ∀ c : Bool, State.postIf { s with thermal := s.nextThermal } c .thermal =
      { s.postIf c .thermal with thermal := s.nextThermal } := by
    intro c
    cases c
    · rfl
    · simp only [State.postIf_true, State.post_ports]
  exact (posted _).trans (by rw [State.postIf_ports]; rfl)

/-- The largest phase current as R98 has it: an ABSENT channel counts 0. -/
theorem foldl_max_present (l : List ChannelRecord) (m : Int) (positive : 0 ≤ m) :
    ((l.filter ChannelRecord.present).map ChannelRecord.value).foldl max m =
      l.foldl (fun m r => max m (if r.present then r.value else 0)) m := by
  induction l generalizing m with
  | nil => rfl
  | cons r l ih =>
    rw [List.filter_cons]
    split
    · rename_i present
      rw [List.map_cons, List.foldl_cons, List.foldl_cons, if_pos present, ih _ (le_max_of_le_left positive)]
    · rename_i absent
      rw [List.foldl_cons, if_neg absent, max_eq_left positive, ih _ positive]

theorem Analog.phases_isEmpty (a : Analog) : a.phases.isEmpty = true ↔
    a.ia.present = false ∧ a.ib.present = false ∧ a.ic.present = false := by
  simp [Analog.phases, List.filter_eq_nil_iff]

/-- Table 6-2 over ordered thresholds, by the band θ lies in. -/
theorem nextZone_ordered {lo hi crit : Int} (theta : Int) (zone : Zone) (lower : lo < hi) (upper : hi < crit) :
    nextZone lo hi crit theta zone =
      if crit ≤ theta then (if zone = .critical ∧ theta < hi then .warning else .critical)
      else if hi ≤ theta then (if zone = .critical then .critical else .warning)
      else if zone = .critical then .warning
      else if lo ≤ theta ∧ zone = .warning then .warning
      else .normal := by
  cases zone <;> simp only [nextZone, reduceCtorEq, true_and, false_and, and_true, and_false, if_true, if_false]
  · grind
  · grind

/-- The largest phase current of the update, and what is found where no phase is PRESENT. -/
theorem Analog.largest_eq (a : Analog) : ((a.phases.foldl max 0).toNat : Int) =
    max 0 (max (if a.ia.present then a.ia.value else 0)
      (max (if a.ib.present then a.ib.value else 0) (if a.ic.present then a.ic.value else 0))) := by
  unfold Analog.phases
  rw [foldl_max_present _ 0 le_rfl, Int.toNat_of_nonneg (by simp only [List.foldl_cons, List.foldl_nil]; omega)]
  simp only [List.foldl_cons, List.foldl_nil, max_assoc]

end Thermal

/-- Settles O40: θ and the zone by `Thermal.updated`, whose zone equation is Table 6-2's over ordered thresholds. -/
theorem thermalUpdateStepsTheModel : Obligations.ThermalUpdateStepsTheModel := by
  intro s running
  refine ⟨_, (whenRunning_running State.thermalUpdate running).trans (congrArg _ s.thermalUpdate_eq), rfl, rfl, rfl,
    rfl, rfl, rfl, ?_, fun ia ib ic => ?_, fun lower upper present => ?_, fun changed => ?_, fun same => ?_⟩
  · simp only [State.nextThermal, Thermal.updated, throttledBy]
    cases s.analog.pnet.present <;> rfl
  · have empty : s.analog.phases.isEmpty = true := s.analog.phases_isEmpty.mpr ⟨ia, ib, ic⟩
    simp only [State.nextThermal, Thermal.updated, empty, if_true]
    exact ⟨trivial, trivial⟩
  · have phases : s.analog.phases.isEmpty = false := by
      rw [← Bool.not_eq_true, Analog.phases_isEmpty]
      rintro ⟨ia, ib, ic⟩
      simp [ia, ib, ic] at present
    refine ⟨_, _, _, _, s.analog.largest_eq, rfl, rfl, rfl, ?_, ?_⟩
    · simp only [State.nextThermal, Thermal.updated, phases, Bool.false_eq_true, if_false]
      exact clamp_eq_max_min (by decide)
    · simp only [State.nextThermal, Thermal.updated, phases, Bool.false_eq_true, if_false]
      exact nextZone_ordered _ _ lower upper
  · have posted : (s.nextThermal.zone != s.thermal.zone) = true := bne_iff_ne.mpr changed
    simp only [posted, State.postIf_true]
    exact ⟨fun port => by have := State.post_pending_on (s := s) (k := .thermal) rfl port; cases port <;> exact this,
      trivial, trivial⟩
  · have silent : (s.nextThermal.zone != s.thermal.zone) = false := by simpa using same
    simp only [silent, State.postIf_false]
    exact ⟨trivial, trivial⟩

/-! ### The operator target (R90, R92, R93) -/

theorem answerLevel_heard_enter (s : State) (port : Port) (tag : Byte) (body : List Byte) :
    answerLevel body ((s.heard port).enter port .level tag) =
      ((({ s with levels := ⟨s.levels.holdover, clamp (fieldInt body 0 4) (-4096) 4096, .current,
          some ⟨s.time, 300000000⟩⟩ } : State).heard port).enter port .level tag,
        .done (beInt 2 (clamp (fieldInt body 0 4) (-4096) 4096))) := by
  cases port <;> rfl

/-- Settles O42: the setting of the target, and the two marks of its age. -/
theorem operatorTargetAges : Obligations.OperatorTargetAges := by
  refine ⟨fun s tag body serves => ⟨clamp (fieldInt body 0 4) (-4096) 4096, clamp_eq_max_min (by decide),
    request_answered serves serves.idle (answerLevel_heard_enter s .operator tag body)⟩,
    fun s timer running armed => ⟨fun current => ?_, ?_⟩⟩
  · refine (whenRunning_running State.ageLate running).trans (congrArg _ ?_)
    simp only [State.ageLate, armed, current]
    rfl
  · refine (whenRunning_running State.ageExpired running).trans (congrArg _ ?_)
    simp only [State.ageExpired, armed]
    rfl

/-! ### The phases of a TRIG record (R84, R85, R87) -/

/-- The record at a place after the record of an id is changed. -/
theorem getElem?_changeId {id : Nat} {change : Commitment → Commitment} {l : List Commitment} {k : Nat}
    {e f : Commitment} (before : l[k]? = some e) (after : (changeId id change l)[k]? = some f) :
    f = if e.id = id then change e else e := by
  rw [changeId, List.getElem?_map, before] at after
  exact (Option.some.inj after).symm

theorem changeId_length (id : Nat) (change : Commitment → Commitment) (l : List Commitment) :
    (changeId id change l).length = l.length := List.length_map _

/-- A change of the record of an id that is found reaches that record and no other. -/
theorem changeId_found {id : Nat} {c d : Commitment} {b : Book} (found : b.find id = some c)
    {change : Commitment → Commitment} (changed : change c = d) :
    (changeId id change b.records).length = b.records.length ∧
      ∀ (k : Nat) (e f : Commitment), b.records[k]? = some e → (changeId id change b.records)[k]? = some f →
        (e.id ≠ c.id → f = e) ∧ (e = c → f = d) := by
  have same : c.id = id := Book.find_id found
  refine ⟨changeId_length _ _ _, fun k e f before after => ⟨fun other => ?_, fun own => ?_⟩⟩
  · rw [getElem?_changeId before after, if_neg (same ▸ other)]
  · rw [getElem?_changeId before after, own, if_pos same, changed]

section Trig

variable {c : Commitment} {l : LevelRecord} {d sup ramp lockout : Nat} {phase : TrigPhase}

/-- A change of phase, in either standing of a record with a level. -/
theorem Commitment.mapLevel_inForce (standing : c.standing = .inForce l) (f : LevelRecord → LevelRecord) :
    c.mapLevel f = { c with standing := .inForce (f l) } := by
  unfold Commitment.mapLevel; rw [standing]

theorem Commitment.mapLevel_overrun (standing : c.standing = .overrun l) (f : LevelRecord → LevelRecord) :
    c.mapLevel f = { c with standing := .overrun (f l) } := by
  unfold Commitment.mapLevel; rw [standing]

theorem LevelRecord.mapPhase_trig (trig : l.follower = .trig phase) (f : TrigPhase → TrigPhase) :
    l.mapPhase f = { l with follower := .trig (f phase) } := by
  unfold LevelRecord.mapPhase; rw [trig]

theorem Commitment.phase_of_level (level : c.level = some l) (trig : l.follower = .trig phase) :
    c.phase = some phase := by
  simp only [Commitment.phase, level, Option.map_some, trig]

theorem endedSupport_firing (now : Nat) {timer : Timer} (firing : l.follower = .trig (.firing timer)) :
    endedSupport now (.trig d sup ramp lockout) l = { l with
      follower := .trig (if 0 < ramp then .releasing (5 * ramp) else if lockout = 0 then .ready 0
        else .lockout ⟨now, lockout * 10000000⟩) } :=
  LevelRecord.mapPhase_trig firing _

/-- The support timer's expiry for a record that stays in the book. -/
theorem State.supportExpiry_stays {s : State} {id : Nat} (found : s.book.find id = some c)
    (firing : c.isFiring = true) (stays : c.endsAtSupport = false) :
    s.supportExpiry id = s.setRecords (changeId id (Commitment.endSupport s.time) s.book.records) := by
  simp only [State.supportExpiry, found, firing, stays, Bool.not_true, Bool.false_eq_true, if_false]

theorem takenMeasurement_trig (now nominal f : Nat) (trig : l.follower = .trig phase) :
    takenMeasurement now nominal f (.trig d sup ramp lockout) l = { l with
      follower := .trig (takeConfirmation now nominal f d sup phase) } :=
  LevelRecord.mapPhase_trig trig _

end Trig

/-- Settles O43: each timer changes the record of its id, found by that id; a measurement by the phase it meets. -/
theorem trigRecordsFollowTheirPhases : Obligations.TrigRecordsFollowTheirPhases := by
  refine ⟨fun s id c l d sup ramp lockout timer running found trig => ⟨fun standing firing => ?_,
    fun standing firing none_ => ?_, fun standing locked => ?_⟩,
    fun now nominal f d sup ramp lockout c l phase trig standing follower => ?_⟩
  · have exec_expiry : exec (.supportTimerExpiry id) s = .next (s.supportExpiry id.toNat) :=
      whenRunning_running (State.supportExpiry id.toNat) running
    have level : c.level = some l := by
      rcases standing with h | ⟨h, -⟩ <;> simp only [Commitment.level, h]
    have fires : c.isFiring = true := by
      simp only [Commitment.isFiring, Commitment.phase_of_level level firing]
    have stays : c.endsAtSupport = false := by
      rcases standing with h | ⟨h, ramps⟩
      · simp [Commitment.endsAtSupport, trig, Commitment.isOverrun, h]
      · simp [Commitment.endsAtSupport, trig, Nat.ne_of_gt ramps]
    rw [State.supportExpiry_stays found fires stays] at exec_expiry
    refine ⟨_, exec_expiry, changeId_found found ?_⟩
    have ended := c.endSupport_eq s.time
    rw [trig] at ended
    rw [ended]
    rcases standing with h | ⟨h, -⟩
    · rw [Commitment.mapLevel_inForce h, endedSupport_firing _ firing]
      simp [Commitment.isOverrun, h]
    · rw [Commitment.mapLevel_overrun h, endedSupport_firing _ firing]
      simp [Commitment.isOverrun, h]
  · refine (whenRunning_running (State.supportExpiry id.toNat) running).trans (congrArg _ ?_)
    have level : c.level = some l := by simp only [Commitment.level, standing]
    have fires : c.isFiring = true := by
      simp only [Commitment.isFiring, Commitment.phase_of_level level firing]
    have ends : c.endsAtSupport = true := by
      simp [Commitment.endsAtSupport, trig, Commitment.isOverrun, standing, none_]
    simp only [State.supportExpiry, found, fires, ends, Bool.not_true, Bool.false_eq_true, if_false, if_true]
  · refine ⟨_, whenRunning_running (fun s => s.setRecords (changeId id.toNat
      (fun c => c.mapLevel fun l => l.mapPhase endLockout) s.book.records)) running, changeId_found found ?_⟩
    rw [Commitment.mapLevel_inForce standing, LevelRecord.mapPhase_trig locked]
    rfl
  · have taken := c.takeMeasurement_eq now nominal f
    rw [trig] at taken
    rw [taken, Commitment.mapLevel_inForce standing, takenMeasurement_trig _ _ _ follower]
    cases phase with
    | ready count =>
      simp only [takeConfirmation, secCounts]
      congr 4
      by_cases fresh : count = 0
      · simp [fresh]
      · simp [fresh, show 2 ≤ count + 1 by omega]
    | firing | releasing | lockout => rfl

end Sys2Proof.Machine

/-! PROOFS. The cycle computation: the level it writes, product by product, and the book it leaves (R79 to R86,
R91). -/

namespace Sys2Proof.Machine

/-! ### The level of a record (R80 to R83, R86, R91) -/

section Level

variable {x : CycleInputs} {capacity : Sides} {l : LevelRecord} {level : Int}

theorem capacitySide_eq (capacity : Sides) (n : Int) : capacitySide capacity n =
    if (0 < n ∧ capacity.up = 0) ∨ (n < 0 ∧ capacity.down = 0) then 0 else n := by
  unfold capacitySide
  split_ifs <;> omega

theorem capacitySide_zero (capacity : Sides) : capacitySide capacity 0 = 0 := by
  simp [capacitySide]

/-- The rule applied again changes nothing (R81). -/
theorem capacitySide_idem (capacity : Sides) (n : Int) :
    capacitySide capacity (capacitySide capacity n) = capacitySide capacity n := by
  rw [capacitySide_eq capacity n]
  split_ifs with gone
  · exact capacitySide_zero capacity
  · rw [capacitySide_eq, if_neg gone]

theorem requiredPower_eq (capacity : Sides) (level : Int) : requiredPower capacity level =
    (level * (if 0 < level then (capacity.up : Int) else capacity.down)).tdiv 4096 := by
  unfold requiredPower
  split_ifs
  · rfl
  · rfl
  · have none_ : level = 0 := by omega
    rw [none_]; simp

theorem cycleLevel_eq (x : CycleInputs) (snapshot : Snapshot) (capacity : Sides) (l : LevelRecord) :
    cycleLevel x snapshot capacity l =
      ⟨capacitySide capacity (formLevel x snapshot capacity l).1,
        requiredPower capacity (capacitySide capacity (formLevel x snapshot capacity l).1),
        (formLevel x snapshot capacity l).2⟩ := rfl

/-- PROP's formula by the side of nominal the measurement lies on (R82). -/
theorem propFormula_within {nominal latest db : Nat} (full : Nat) (low : latest ≤ nominal + db)
    (high : nominal ≤ latest + db) : propFormula nominal latest db full = 0 :=
  if_pos (by omega)

theorem propFormula_below {nominal latest db : Nat} (full : Nat) (below : latest + db < nominal) :
    propFormula nominal latest db full =
      (min 4096 ((nominal - latest - db) * 4096 / (full - db)) : Nat) := by
  have size : ((nominal : Int) - latest).natAbs = nominal - latest := by omega
  have up : ((nominal : Int) - latest).sign = 1 := Int.sign_eq_one_of_pos (by omega)
  unfold propFormula
  dsimp only
  rw [size, if_neg (by omega), up, one_mul]

theorem propFormula_above {nominal latest db : Nat} (full : Nat) (above : nominal + db < latest) :
    propFormula nominal latest db full =
      -((min 4096 ((latest - nominal - db) * 4096 / (full - db)) : Nat) : Int) := by
  have size : ((nominal : Int) - latest).natAbs = latest - nominal := by omega
  have down : ((nominal : Int) - latest).sign = -1 := Int.sign_eq_neg_one_of_neg (by omega)
  unfold propFormula
  dsimp only
  rw [size, if_neg (by omega), down, neg_one_mul]

/-- A held level decays by 205 toward 0 (R83). -/
theorem decayLevel_of_nonneg (positive : 0 ≤ level) : decayLevel level = max 0 (level - 205) := by
  unfold decayLevel
  rcases positive.eq_or_lt with rfl | up
  · rfl
  · rw [Int.sign_eq_one_of_pos up]; omega

theorem decayLevel_of_nonpos (negative : level ≤ 0) : decayLevel level = min 0 (level + 205) := by
  unfold decayLevel
  rcases negative.eq_or_lt with rfl | down
  · rfl
  · rw [Int.sign_eq_neg_one_of_neg down]; omega

theorem rampToward_near {step : Nat} {target : Int} (near : (target - level).natAbs ≤ step) :
    rampToward step level target = target := if_pos near

theorem rampToward_up {step : Nat} {target : Int} (far : level + step < target) :
    rampToward step level target = level + step := by
  unfold rampToward; rw [if_neg (by omega), if_pos (by omega)]

theorem rampToward_down {step : Nat} {target : Int} (far : target < level - step) :
    rampToward step level target = level - step := by
  unfold rampToward; rw [if_neg (by omega), if_neg (by omega)]

/-- What a PROP record forms (R82, R83). -/
theorem formLevel_prop {db full eu ed : Nat} (prop : l.follower = .prop) :
    formLevel x (.prop db full eu ed) capacity l =
      (if x.holdover = 0 then propFormula x.nominal x.latest db full
        else if x.holdover ≤ 10 then l.level else decayLevel l.level, .prop) := by
  unfold formLevel
  simp only [prop]
  split_ifs <;> rfl

theorem formLevel_ready {d sup ramp lockout count : Nat} (ready : l.follower = .trig (.ready count)) :
    formLevel x (.trig d sup ramp lockout) capacity l = (0, l.follower) := by
  simp only [formLevel, ready]

theorem formLevel_firing {d sup ramp lockout : Nat} {timer : Timer} (firing : l.follower = .trig (.firing timer)) :
    formLevel x (.trig d sup ramp lockout) capacity l = (4096, l.follower) := by
  simp only [formLevel, firing]

theorem formLevel_releasing_succ {d sup ramp lockout k : Nat} (releasing : l.follower = .trig (.releasing (k + 1))) :
    formLevel x (.trig d sup ramp lockout) capacity l = (((4096 * k / (5 * ramp) : Nat) : Int),
      .trig (if k = 0 then enterLockout x.now lockout else .releasing k)) := by
  simp only [formLevel, releasing, Nat.add_sub_cancel]

theorem formLevel_lockout {d sup ramp lockout : Nat} {timer : Timer}
    (locked : l.follower = .trig (.lockout timer)) :
    formLevel x (.trig d sup ramp lockout) capacity l = (0, l.follower) := by
  simp only [formLevel, locked]

theorem formLevel_setp {e ramp step : Nat} (setp : l.follower = .setp step) :
    formLevel x (.setp e ramp) capacity l =
      (rampToward step l.level (capacitySide capacity x.target), .setp step) := by
  simp only [formLevel, setp]

end Level

/-! ### The book a cycle computation leaves -/

section Cycle

variable {s : State}

/-- An OVERRUN record covers no row: it ended before the slots the rows stand for (R11, R45). -/
theorem BookSound.overrun_covers_none (h : BookSound s) {c : Commitment} (mem : c ∈ s.book.records)
    (overrun : c.isOverrun = true) {r : PlanRow} (row : r ∈ s.plan.all) : c.coversRow r = false := by
  obtain ⟨-, -, time, -, -⟩ := (bookSound_iff s).mp h
  obtain ⟨unset, set⟩ := time
  unfold Commitment.coversRow
  split
  · rfl
  · rename_i slot stands
    have isSet : s.clock.set = true := by
      by_contra un
      rw [(unset (by simpa using un)).1] at mem
      cases mem
    obtain ⟨placed, standing⟩ := set isSet
    have ended := standing c mem
    unfold Commitment.placed at ended
    unfold Commitment.isOverrun at overrun
    split at ended <;> rename_i state <;> simp only [state] at overrun
    · cases overrun
    · cases overrun
    · have := (placed.slot_range row stands).1
      simp only [Commitment.covers, decide_eq_false_iff_not]
      omega

theorem Plan.uncommit_foldl {p : Plan} {l : List Commitment}
    (outside : ∀ c ∈ l, ∀ r ∈ p.all, c.coversRow r = false) :
    l.foldl (fun p c => p.mapRows (PlanRow.uncommit c)) p = p := by
  induction l with
  | nil => rfl
  | cons c l ih =>
    have same : p.mapRows (PlanRow.uncommit c) = p := by
      have kept : ∀ r ∈ p.all, PlanRow.uncommit c r = r := fun r row =>
        if_neg (by simp [outside c List.mem_cons_self r row])
      obtain ⟨rows, horizon⟩ := p
      unfold Plan.mapRows
      congr 1
      · exact (List.map_congr_left fun r row => kept r (List.mem_append_left _ row)).trans (List.map_id' _)
      · cases horizon with
        | none => rfl
        | some r => exact congrArg some (kept r (List.mem_append_right _ (by simp)))
    rw [List.foldl_cons, same]
    exact ih fun d mem => outside d (List.mem_cons_of_mem _ mem)

/-- Among the records of a book, those of some records' ids are those records (R5). -/
theorem BookSound.less_filter (h : BookSound s) (p : Commitment → Bool) :
    (s.book.less (s.book.records.filter p)).records = s.book.records.filter fun c => !p c := by
  obtain ⟨-, book, -, -, -⟩ := (bookSound_iff s).mp h
  unfold Book.less
  refine List.filter_congr fun c mem => ?_
  have same : ((s.book.records.filter p).map Commitment.id).contains c.id = p c := by
    rw [Bool.eq_iff_iff, List.contains_iff_mem, List.mem_map]
    constructor
    · rintro ⟨d, taken, id⟩
      obtain ⟨held, holds⟩ := List.mem_filter.mp taken
      rwa [← List.inj_on_of_nodup_map book.2.1 held mem id]
    · exact fun holds => ⟨c, List.mem_filter.mpr ⟨mem, holds⟩, rfl⟩
  rw [same]

theorem Commitment.endsPulse_iff (c : Commitment) : c.endsPulse = true ↔
    ∃ l k, c.standing = .overrun l ∧ l.follower = .trig (.releasing k) ∧ k ≤ 1 := by
  unfold Commitment.endsPulse
  split
  · rename_i l overrun
    split
    · rename_i k releasing
      simp [overrun, releasing]
    · rename_i other
      simp only [Bool.false_eq_true, false_iff, not_exists, overrun]
      rintro m k ⟨same, releasing, -⟩
      cases same
      exact other k releasing
  · rename_i other
    simp only [Bool.false_eq_true, false_iff, not_exists]
    rintro m k ⟨overrun, -⟩
    exact other m overrun

/-- The records less those that leave, each changed, are the records each kept or dropped. -/
theorem map_filter_eq_filterMap {α β : Type} (p : α → Bool) (g : α → β) (l : List α) :
    (l.filter p).map g = l.filterMap fun c => if p c then some (g c) else none := by
  rw [← List.filterMap_eq_map, List.filterMap_filter]; rfl

/-- What the cycle computation leaves, written out. -/
theorem BookSound.cycleComputation_eq (h : BookSound s) :
    s.cycleComputation = State.postIf { s with
        book := { s.book with
          records := (s.book.records.filter fun c => !c.endsPulse).map (Commitment.cycle s.cycleInputs) }
        marked := s.marked.filter fun i =>
          !((s.book.records.filter Commitment.endsPulse).map Commitment.id).contains i
        levels := { s.levels with holdover := s.cycleInputs.holdover } }
      (!(s.book.records.filter Commitment.endsPulse).isEmpty) .book := by
  have plan : (s.book.records.filter Commitment.endsPulse).foldl
      (fun p c => p.mapRows (PlanRow.uncommit c)) s.plan = s.plan := by
    refine Plan.uncommit_foldl fun c taken r row => ?_
    obtain ⟨mem, ends⟩ := List.mem_filter.mp taken
    obtain ⟨l, k, overrun, -, -⟩ := c.endsPulse_iff.mp ends
    exact h.overrun_covers_none mem (by simp [Commitment.isOverrun, overrun]) row
  rw [State.cycleComputation_eq, h.less_filter]
  unfold State.without State.setRecords
  rw [plan]
  rfl

/-- One record at a cycle computation, by its standing. -/
theorem Commitment.cycle_kept (x : CycleInputs) (c : Commitment) :
    (if (!c.endsPulse) = true then some (c.cycle x) else none) =
      match c.standing with
      | .pending => some c
      | .inForce l => some { c with standing := .inForce (cycleLevel x c.snapshot c.capacity l) }
      | .overrun l =>
        match l.follower with
        | .trig (.releasing k) =>
          if k ≤ 1 then none
          else some { c with standing := .overrun (cycleLevel x c.snapshot c.capacity l) }
        | _ => some { c with standing := .overrun (cycleLevel x c.snapshot c.capacity l) } := by
  obtain ⟨id, ref, seq, start, stop, snapshot, capacity, requirement, standing, mark⟩ := c
  cases standing with
  | pending => rfl
  | inForce l => rfl
  | overrun l =>
    obtain ⟨level, power, follower⟩ := l
    cases follower with
    | prop => rfl
    | setp => rfl
    | trig phase =>
      cases phase with
      | releasing k =>
        by_cases last : k ≤ 1
        · simp [Commitment.endsPulse, last]
        · simp [Commitment.endsPulse, last]; rfl
      | ready | firing | lockout => rfl

/-- The marks after records left are those of the records that stay (R55). -/
theorem BookSound.marked_kept (h : BookSound s) (p : Commitment → Bool) {l : List Commitment}
    (ids : l.map Commitment.id = (s.book.records.filter fun c => !p c).map Commitment.id) :
    (s.marked.filter fun i => !((s.book.records.filter p).map Commitment.id).contains i) =
      s.marked.filter fun i => l.any fun c => c.id == i := by
  obtain ⟨-, book, -, -, marked⟩ := (bookSound_iff s).mp h
  refine List.filter_congr fun i mem => ?_
  rw [marked] at mem
  obtain ⟨c, kept, rfl⟩ := List.mem_map.mp mem
  have held : c ∈ s.book.records := List.mem_of_mem_filter kept
  have found : ∀ q : Commitment → Bool,
      c.id ∈ (s.book.records.filter q).map Commitment.id ↔ q c = true := by
    intro q
    rw [List.mem_map]
    constructor
    · rintro ⟨d, taken, same⟩
      obtain ⟨mem, holds⟩ := List.mem_filter.mp taken
      rwa [← List.inj_on_of_nodup_map book.2.1 mem held same]
    · exact fun holds => ⟨c, List.mem_filter.mpr ⟨held, holds⟩, rfl⟩
  have any : (l.any fun d => d.id == c.id) = true ↔ c.id ∈ l.map Commitment.id := by simp [List.any_eq_true]
  rw [Bool.eq_iff_iff, any, ids, found, Bool.not_eq_true', ← Bool.not_eq_true, List.contains_iff_mem, found]
  simp

end Cycle

theorem State.cycleInputs_holdover (s : State) : s.cycleInputs.holdover =
    if s.meter.state = .valid then 0 else min 255 (s.levels.holdover + 1) := by
  simp only [State.cycleInputs, nextHoldover, beq_iff_eq]

theorem State.cycleInputs_target (s : State) :
    s.cycleInputs.target = if s.levels.age = .expired then 0 else s.levels.target := by
  simp only [State.cycleInputs, beq_iff_eq]

/-- Settles O44: the level by the follower `formLevel` meets; the book by `BookSound.cycleComputation`. -/
theorem cycleComputationWritesLevels : Obligations.CycleComputationWritesLevels := by
  refine ⟨fun x snapshot capacity l m side sides written => ?_, fun s sound => ?_⟩
  · have same : side = capacitySide capacity := funext fun n => (sides n).trans (capacitySide_eq capacity n).symm
    subst same written
    rw [cycleLevel_eq]
    refine ⟨requiredPower_eq _ _, ?_, ?_, ?_⟩
    · rintro db full eu ed rfl prop ordered
      rw [formLevel_prop prop]
      refine ⟨rfl, fun valid low high => ?_, fun valid below => ?_, fun valid above => ?_, fun held short => ?_,
        fun long positive => ?_, fun long negative => ?_⟩
      · simp only [if_pos valid, propFormula_within full low high, capacitySide_zero]
      · simp only [if_pos valid, propFormula_below full below]
      · simp only [if_pos valid, propFormula_above full above]
      · simp only [if_neg (show ¬x.holdover = 0 by omega), if_pos short]
      · simp only [if_neg (show ¬x.holdover = 0 by omega), if_neg (not_le.mpr long), decayLevel_of_nonneg positive]
      · simp only [if_neg (show ¬x.holdover = 0 by omega), if_neg (not_le.mpr long), decayLevel_of_nonpos negative]
    · rintro d sup ramp lockout rfl
      refine ⟨fun count ready => ?_, fun timer firing => ?_, fun k releasing => ?_, fun timer locked => ?_⟩
      · rw [formLevel_ready ready]; exact ⟨capacitySide_zero capacity, rfl⟩
      · rw [formLevel_firing firing]; exact ⟨rfl, rfl⟩
      · rw [formLevel_releasing_succ releasing]
        refine ⟨rfl, fun more => ?_, fun last locks => ?_, fun last none_ => ?_⟩
        · simp only [if_neg (Nat.ne_of_gt more)]
        · simp only [if_pos last, enterLockout, if_neg (Nat.ne_of_gt locks), secCounts]
        · simp only [if_pos last, enterLockout, if_pos none_]
      · rw [formLevel_lockout locked]; exact ⟨capacitySide_zero capacity, rfl⟩
    · rintro e ramp step rfl setp
      rw [formLevel_setp setp]
      refine ⟨rfl, fun near => ?_, fun far => ?_, fun far => ?_⟩
      · simp only [rampToward_near near, capacitySide_idem]
      · simp only [rampToward_up far]
      · simp only [rampToward_down far]
  · have ids : ((s.book.records.filter fun c => !c.endsPulse).map (Commitment.cycle s.cycleInputs)).map
        Commitment.id = (s.book.records.filter fun c => !c.endsPulse).map Commitment.id := by
      rw [List.map_map]
      exact List.map_congr_left fun c _ => (c.mapLevel_alike _).1.1
    have leave : (s.book.records.filter fun c => !c.endsPulse).length < s.book.records.length ↔
        (!(s.book.records.filter Commitment.endsPulse).isEmpty) = true := by
      rw [List.length_filter_lt_length_iff_exists]
      simp [List.filter_eq_nil_iff]
    refine ⟨_, s.cycleInputs, _, rfl, fun _ _ => rfl, rfl, rfl, fun f measured => by simp [State.cycleInputs, measured],
      s.cycleInputs_holdover, s.cycleInputs_target, ?_⟩
    rw [BookSound.cycleComputation_eq sound]
    refine ⟨?_, ?_, ?_, fun fewer => ?_, fun same => ?_⟩
    · conv_lhs => rw [State.postIf_ports]
      simp only [State.postIf_book, State.postIf_marked]
    · rw [State.postIf_book]
      refine congrArg (fun l => ({ s.book with records := l } : Book)) ?_
      rw [map_filter_eq_filterMap]
      exact List.filterMap_congr fun c _ => (c.cycle_kept s.cycleInputs)
    · rw [State.postIf_marked, State.postIf_book]
      exact sound.marked_kept Commitment.endsPulse ids
    · rw [State.postIf_book, List.length_map, leave] at fewer
      rw [fewer]
      simp only [State.postIf_true, State.post_ports]
      exact ⟨trivial, trivial⟩
    · rw [State.postIf_book, List.length_map] at same
      have stays := mt leave.mpr (by omega)
      rw [Bool.not_eq_true] at stays
      rw [stays]
      exact ⟨rfl, rfl⟩

end Sys2Proof.Machine

/-! PROOFS. A dispatch result at the Delivery Monitor: the opening, the account and the closing (R139 to R149). -/

namespace Sys2Proof.Machine

/-! ### The monitor's own writing, and the postings around it -/

/-- The monitor's items and the Fleet Table, written together. -/
def State.withDelivery (s : State) (d : Delivery) (f : Fleet) : State := { s with delivery := d, fleet := f }

section WithDelivery

variable (s : State) (d : Delivery) (f : Fleet)

@[simp] theorem State.withDelivery_delivery : (s.withDelivery d f).delivery = d := rfl
@[simp] theorem State.withDelivery_fleet : (s.withDelivery d f).fleet = f := rfl
@[simp] theorem State.withDelivery_profile : (s.withDelivery d f).profile = s.profile := rfl
@[simp] theorem State.withDelivery_clock : (s.withDelivery d f).clock = s.clock := rfl

@[simp] theorem State.withDelivery_withDelivery (d' : Delivery) (f' : Fleet) :
    (s.withDelivery d f).withDelivery d' f' = s.withDelivery d' f' := rfl

@[simp] theorem State.withDelivery_self : s.withDelivery s.delivery s.fleet = s := rfl

/-- A posting reads nothing of the monitor and of the table. -/
theorem State.postIf_withDelivery (c : Bool) (k : Notice) :
    (s.withDelivery d f).postIf c k = (s.postIf c k).withDelivery d f := by
  cases c
  · rfl
  · simp only [State.postIf_true, State.post_ports]; rfl

theorem State.post_withDelivery (k : Notice) : (s.withDelivery d f).post k = (s.post k).withDelivery d f :=
  s.postIf_withDelivery d f true k

end WithDelivery

/-- A result accounted: SHORTFALL as the cycle asks, and the closing where the quiet period is reached. -/
theorem State.account_eq (s : State) (e : Episode) (opening : Bool) (r : DispatchResult) :
    s.account e opening r =
      let counted := e.accumulate s.profile opening r
      let f := counted.1.countQuiet r.required
      let u := (s.postIf counted.2 .shortfall).withDelivery { s.delivery with episode := some f } s.fleet
      if f.ends s.profile then u.closeEpisode f else u := by
  unfold State.account
  dsimp only
  change (if _ then State.closeEpisode _ ((s.withDelivery _ s.fleet).postIf _ .shortfall) else
    (s.withDelivery _ s.fleet).postIf _ .shortfall) = _
  rw [State.postIf_withDelivery]

/-- What an opening does to a unit's record: its baseline taken, its test aborted (R37, R140, R141). -/
def UnitRecord.opened (u : UnitRecord) : UnitRecord := u.takeBaseline.abortTest

theorem UnitRecord.takeBaseline_inTest (u : UnitRecord) : u.takeBaseline.inTest = u.inTest := by
  unfold UnitRecord.takeBaseline
  split <;> rfl

theorem UnitRecord.takeBaseline_eq (u : UnitRecord) : u.takeBaseline = { u with
    baseline := match u.link, u.report with
      | .live, some report => some (report.power - u.restoration)
      | _, _ => u.baseline } := by
  obtain ⟨link, misses, mode, g, bars, report, rest⟩ := u
  cases link <;> cases report <;> rfl

theorem UnitRecord.abortTest_eq (u : UnitRecord) : u.abortTest = { u with
    mode := match u.mode with
      | .test k => .plain k.prior
      | .plain m => .plain m
    lastTest := if u.inTest then some .aborted else u.lastTest } := by
  obtain ⟨link, misses, mode, rest⟩ := u
  cases mode <;> rfl

theorem UnitRecord.opened_eq (u : UnitRecord) : u.opened = { u with
    baseline := match u.link, u.report with
      | .live, some report => some (report.power - u.restoration)
      | _, _ => u.baseline
    mode := match u.mode with
      | .test k => .plain k.prior
      | .plain m => .plain m
    lastTest := if u.inTest then some .aborted else u.lastTest } := by
  rw [UnitRecord.opened, UnitRecord.takeBaseline_eq, UnitRecord.abortTest_eq]
  rfl

theorem Fleet.underTest_eq_any (f : Fleet) : f.underTest.isSome = f.any fun x => x.2.inTest := by
  rw [Bool.eq_iff_iff, Fleet.underTest_isSome_iff, List.any_eq_true]

theorem State.abortTests_eq (s : State) : s.abortTests =
    (s.postIf s.fleet.underTest.isSome .test).withDelivery s.delivery
      (Fleet.mapUnits s.fleet UnitRecord.abortTest) := by
  rw [← State.postIf_withDelivery]
  rfl

theorem State.openEpisode_eq (s : State) (number : Nat) : s.openEpisode number =
    ((s.post .episodeOpen).postIf (s.fleet.any fun x => x.2.inTest) .test).withDelivery
      ⟨some (Episode.opening number s.clock.slot s.clock.second), s.delivery.log,
        if maxWord ≤ number then none else some (number + 1)⟩
      (s.fleet.map fun x => (x.1, x.2.opened)) := by
  have tests : (Fleet.mapUnits s.fleet UnitRecord.takeBaseline).underTest.isSome =
      s.fleet.any fun x => x.2.inTest := by
    rw [Fleet.underTest_eq_any]
    simp only [Fleet.mapUnits, List.any_map, Function.comp_def, UnitRecord.takeBaseline_inTest]
  have table : Fleet.mapUnits (Fleet.mapUnits s.fleet UnitRecord.takeBaseline) UnitRecord.abortTest =
      s.fleet.map fun x => (x.1, x.2.opened) := by
    simp only [Fleet.mapUnits, List.map_map]; rfl
  have opens : s.openEpisode number = ((s.post .episodeOpen).withDelivery
      ⟨some (Episode.opening number s.clock.slot s.clock.second), s.delivery.log,
        if maxWord ≤ number then none else some (number + 1)⟩
      (Fleet.mapUnits s.fleet UnitRecord.takeBaseline)).abortTests :=
    congrArg State.abortTests (State.post_withDelivery s _ _ _)
  rw [opens, State.abortTests_eq, State.withDelivery_fleet, State.withDelivery_delivery, tests, table,
    State.postIf_withDelivery, State.withDelivery_withDelivery]

/-! ### One cycle judged (R145, R146) -/

section Judge

variable (e : Episode) (p : Profile) (permitted c : Nat)

theorem Episode.judge_rises (rises : e.previous < permitted) : e.judge p false permitted c =
    ({ e with grace := 10, shortRun := 0, reported := false }, false) := if_pos (by simp [rises])

theorem Episode.judge_grace (stays : permitted ≤ e.previous) (grace : 0 < e.grace) :
    e.judge p false permitted c = ({ e with grace := e.grace - 1 }, false) :=
  (if_neg (by simp [stays])).trans (if_pos grace)

theorem Episode.judge_short (stays : permitted ≤ e.previous) (judged : ¬0 < e.grace)
    (deep : shortThreshold p permitted < permitted - c) : e.judge p false permitted c =
      ({ e with
          shortCycles := min 4294967295 (e.shortCycles + 1), shortRun := min 255 (e.shortRun + 1)
          reported := e.reported ||
            (decide (p.nat .shortRunLimit ≤ min 255 (e.shortRun + 1)) && !e.reported) },
        decide (p.nat .shortRunLimit ≤ min 255 (e.shortRun + 1)) && !e.reported) :=
  (if_neg (by simp [stays])).trans ((if_neg judged).trans (if_pos deep))

theorem Episode.judge_met (stays : permitted ≤ e.previous) (judged : ¬0 < e.grace)
    (met : ¬shortThreshold p permitted < permitted - c) : e.judge p false permitted c =
      ({ e with shortRun := 0, reported := false }, false) :=
  (if_neg (by simp [stays])).trans ((if_neg judged).trans (if_neg met))

/-- What the judgement of a cycle in an open episode moves, and when it posts SHORTFALL. -/
theorem Episode.judge_spec {judged short : Prop} (judges : judged ↔ permitted ≤ e.previous ∧ e.grace = 0)
    (shorts : short ↔ judged ∧ max (p.nat .toleranceFloor) (permitted * p.nat .tolerance / 4096) < permitted - c) :
    (e.judge p false permitted c).1 = { e with
      grace := if e.previous < permitted then 10 else e.grace - 1
      shortCycles := (e.judge p false permitted c).1.shortCycles
      shortRun := (e.judge p false permitted c).1.shortRun
      reported := (e.judge p false permitted c).1.reported } ∧
    (short → (e.judge p false permitted c).1.shortCycles = min 4294967295 (e.shortCycles + 1) ∧
      (e.judge p false permitted c).1.shortRun = min 255 (e.shortRun + 1) ∧
      ((e.judge p false permitted c).1.reported = true ↔
        e.reported = true ∨ p.nat .shortRunLimit ≤ min 255 (e.shortRun + 1))) ∧
    (¬short → (e.judge p false permitted c).1.shortCycles = e.shortCycles) ∧
    ((e.previous < permitted ∨ (judged ∧ ¬short)) →
      (e.judge p false permitted c).1.shortRun = 0 ∧ (e.judge p false permitted c).1.reported = false) ∧
    (permitted ≤ e.previous → 0 < e.grace → (e.judge p false permitted c).1.shortRun = e.shortRun ∧
      (e.judge p false permitted c).1.reported = e.reported) ∧
    ((e.judge p false permitted c).2 = true ↔
      short ∧ p.nat .shortRunLimit ≤ min 255 (e.shortRun + 1) ∧ e.reported = false) := by
  rcases lt_or_ge e.previous permitted with rises | stays
  · have unjudged : ¬judged := fun h => by have := judges.mp h; omega
    have notShort : ¬short := fun h => unjudged (shorts.mp h).1
    rw [Episode.judge_rises e p permitted c rises, if_pos rises]
    exact ⟨rfl, fun h => absurd h notShort, fun _ => rfl, fun _ => ⟨rfl, rfl⟩,
      fun falls => absurd rises (not_lt.mpr falls), by simp [notShort]⟩
  · by_cases grace : 0 < e.grace
    · have unjudged : ¬judged := fun h => by have := judges.mp h; omega
      have notShort : ¬short := fun h => unjudged (shorts.mp h).1
      rw [Episode.judge_grace e p permitted c stays grace, if_neg (not_lt.mpr stays)]
      exact ⟨rfl, fun h => absurd h notShort, fun _ => rfl,
        fun h => absurd (h.resolve_left (not_lt.mpr stays)).1 unjudged, fun _ _ => ⟨rfl, rfl⟩, by simp [notShort]⟩
    · have isJudged : judged := judges.mpr ⟨stays, by omega⟩
      have kept : (if e.previous < permitted then 10 else e.grace - 1) = e.grace := by
        rw [if_neg (not_lt.mpr stays)]; omega
      rw [kept]
      by_cases deep : shortThreshold p permitted < permitted - c
      · have isShort : short := shorts.mpr ⟨isJudged, deep⟩
        rw [Episode.judge_short e p permitted c stays grace deep]
        refine ⟨rfl, fun _ => ⟨rfl, rfl, ?_⟩, fun h => absurd isShort h, fun h => ?_, fun _ h => absurd h grace, ?_⟩
        · cases e.reported <;> simp
        · exact h.elim (fun rises => absurd rises (not_lt.mpr stays)) fun h => absurd isShort h.2
        · simp [isShort]
      · have notShort : ¬short := fun h => deep (shorts.mp h).2
        rw [Episode.judge_met e p permitted c stays grace deep]
        exact ⟨rfl, fun h => absurd h notShort, fun _ => rfl, fun _ => ⟨rfl, rfl⟩, fun _ h => absurd h grace,
          by simp [notShort]⟩

end Judge

/-! ### The contributors (R144) -/

section Contribute

variable {x : List Contributor × Bool} {c : Call}

theorem contribute_known (known : ∃ e ∈ x.1, e.id = c.id) : contribute x c =
    (x.1.map fun e => if e.id = c.id then { e with energy := e.energy + c.power.natAbs } else e, x.2) :=
  if_pos (by simpa [List.any_eq_true] using known)

theorem contribute_unknown (unknown : ∀ e ∈ x.1, e.id ≠ c.id) : contribute x c =
    if x.1.length < 8 then (x.1 ++ [⟨c.id, c.product, c.power.natAbs⟩], x.2) else (x.1, true) :=
  if_neg (by simpa [List.any_eq_true] using unknown)

end Contribute

/-! ### One result -/

/-- The record a closing forms, written out (R148, Table 9-3). -/
theorem State.closeEpisode_eq (s : State) (e : Episode) : s.closeEpisode e =
    State.post { s with
      delivery := ⟨none, s.delivery.log.drop (if s.delivery.log.length < 32 then 0 else 1)
        ++ [e.record s.profile s.clock.slot s.clock.second], s.delivery.nextNumber⟩
      fleet := s.fleet.map fun x => (x.1, { x.2 with baseline := none }) } .episodeClosed := by
  have log : ∀ r, appendLog s.delivery.log r =
      s.delivery.log.drop (if s.delivery.log.length < 32 then 0 else 1) ++ [r] := by
    intro r
    unfold appendLog
    split_ifs <;> first | rfl | omega
  rw [← log]
  rfl

theorem Episode.ends_iff (e : Episode) (p : Profile) :
    e.ends p = true ↔ 5 * p.nat .quietPeriod ≤ e.quiet := decide_eq_true_iff

/-- The first cycle of an episode (R140, R143, R145): nothing is delivered yet, and its grace begins. -/
theorem Episode.accumulate_opening (number slot second : Nat) (p : Profile) {r : DispatchResult}
    (required : r.required.natAbs ≤ 18446744073709551615) (permitted : r.permitted.natAbs ≤ 18446744073709551615) :
    (Episode.opening number slot second).accumulate p true r =
      ({ Episode.opening number slot second with
          energies := ⟨r.required.natAbs, r.permitted.natAbs, r.required.natAbs - r.permitted.natAbs, 0,
            r.permitted.natAbs⟩
          peak := r.permitted.natAbs, contributors := (r.calls.foldl contribute ([], false)).1
          overflow := (r.calls.foldl contribute ([], false)).2
          previous := r.permitted.natAbs, lastRequired := r.required
          lastPermitted := r.permitted, lastAsked := r.asked }, false) := by
  have nothing : credit r.permitted 0 = 0 := by simp [credit]
  have sums : ∀ n, n ≤ 18446744073709551615 → satAdd maxLong 0 n = n := by
    intro n small; unfold satAdd maxLong; omega
  simp only [Episode.accumulate, Episode.judge, Episode.opening, Bool.true_or, if_true, nothing,
    Accumulators.cycle, sums _ required, sums _ permitted, sums _ (show 0 ≤ _ from Nat.zero_le _),
    sums (r.required.natAbs - r.permitted.natAbs) (by omega), Nat.sub_zero, Nat.zero_max]

/-- The items an open episode takes from a result before its cycle is judged (R143, R144). -/
def Episode.tallied (e : Episode) (r : DispatchResult) : Episode :=
  { e with
    energies := e.energies.cycle r.required.natAbs r.permitted.natAbs (credit r.permitted e.delivered)
    peak := max e.peak r.permitted.natAbs
    contributors := (r.calls.foldl contribute (e.contributors, e.overflow)).1
    overflow := (r.calls.foldl contribute (e.contributors, e.overflow)).2
    lastRequired := r.required, lastPermitted := r.permitted, lastAsked := r.asked }

theorem Episode.accumulate_eq (e : Episode) (p : Profile) (opening : Bool) (r : DispatchResult) :
    e.accumulate p opening r =
      let judged := (e.tallied r).judge p opening r.permitted.natAbs (credit r.permitted e.delivered)
      ({ judged.1 with previous := r.permitted.natAbs }, judged.2) := rfl

/-- The place an episode was opened at stays through its account. -/
theorem Episode.accumulate_opened (e : Episode) (p : Profile) (opening : Bool) (r : DispatchResult) :
    (e.accumulate p opening r).1.openSlot = e.openSlot ∧
      (e.accumulate p opening r).1.openSecond = e.openSecond := by
  rw [Episode.accumulate_eq]
  dsimp only
  obtain ⟨_, _, _, _, -, -, judged⟩ := Episode.judge_eq _ p opening _ _
  rw [judged]
  exact ⟨rfl, rfl⟩

/-- Settles O54: an opening is the monitor's writing and its first cycle; an open episode's cycle is judged by
`Episode.judge_spec`. -/
theorem episodesOpenAccrueAndClose : Obligations.EpisodesOpenAccrueAndClose := by
  refine ⟨fun x c => ⟨contribute_known, fun unknown few => ?_, fun unknown full => ?_⟩,
    fun s t r taken requiredFits permittedFits quiet => ⟨fun closed none_ => ?_, fun number closed some_ next => ?_,
      fun e opened => ?_⟩⟩
  · rw [contribute_unknown unknown, if_pos few]
  · rw [contribute_unknown unknown, if_neg (not_lt.mpr full)]
  · subst taken
    unfold State.takeResult
    rw [closed]
    rcases none_ with none_ | none_
    · exact if_pos none_
    · rw [none_]; exact ite_self _
  · refine ⟨_, _, rfl, rfl, ?_⟩
    have opening : s.takeResult r =
        (s.openEpisode number).account (Episode.opening number s.clock.slot s.clock.second) true r := by
      unfold State.takeResult
      rw [closed, if_neg some_, next]
    have profile : (s.openEpisode number).profile = s.profile := by rw [State.openEpisode_eq]; simp
    have goes : ∀ e : Episode, e.quiet = 0 → e.ends s.profile = false := by
      intro e none_
      rw [← Bool.not_eq_true, Episode.ends_iff, none_]; omega
    rw [taken, opening, State.account_eq, profile, Episode.accumulate_opening _ _ _ _ requiredFits permittedFits]
    dsimp only
    rw [State.postIf_false, if_neg (by rw [goes _ (if_neg some_)]; exact Bool.false_ne_true), State.openEpisode_eq]
    have last : (if number < 4294967295 then some (number + 1) else none) =
        if maxWord ≤ number then none else some (number + 1) := by
      unfold maxWord; split_ifs <;> first | rfl | omega
    have table : (s.fleet.map fun x => (x.1, x.2.opened)) = s.fleet.map fun x => (x.1, { x.2 with
        baseline := match x.2.link, x.2.report with
          | .live, some report => some (report.power - x.2.restoration)
          | _, _ => x.2.baseline
        mode := match x.2.mode with
          | .test k => .plain k.prior
          | .plain m => .plain m
        lastTest := if x.2.inTest then some .aborted else x.2.lastTest }) :=
      List.map_congr_left fun x _ => congrArg (Prod.mk x.1) x.2.opened_eq
    rw [State.withDelivery_withDelivery, State.withDelivery_fleet, State.withDelivery_delivery, table]
    refine Eq.trans ?_ (congrArg (State.postIf · _ .test) (State.post_withDelivery s _ _ .episodeOpen)).symm
    rw [State.postIf_withDelivery, last]
    unfold Episode.countQuiet
    rw [if_neg some_]
    rfl
  · obtain ⟨frame, counts, keeps, clears, graced, reports⟩ := (e.tallied r).judge_spec s.profile r.permitted.natAbs
      (credit r.permitted e.delivered)
      (judged := r.permitted.natAbs ≤ e.previous ∧ e.grace = 0)
      (short := (r.permitted.natAbs ≤ e.previous ∧ e.grace = 0) ∧ max (s.profile.nat .toleranceFloor)
        (r.permitted.natAbs * s.profile.nat .tolerance / 4096)
          < r.permitted.natAbs - credit r.permitted e.delivered) Iff.rfl Iff.rfl
    have accounted : s.takeResult r = s.account e false r := by
      unfold State.takeResult; rw [opened]
    rw [taken, accounted, State.account_eq]
    refine ⟨credit r.permitted e.delivered, r.permitted.natAbs, _, _, _, _,
      (e.accumulate s.profile false r).1.countQuiet r.required,
      (s.postIf (e.accumulate s.profile false r).2 .shortfall).withDelivery { s.delivery with
        episode := some ((e.accumulate s.profile false r).1.countQuiet r.required) } s.fleet,
      rfl, rfl, Iff.rfl, Iff.rfl, rfl, rfl, ?_, counts, keeps, clears, graced, fun short => ?_, fun none_ => ?_,
      fun fewer => ?_, fun enough => ⟨_, rfl, ?_⟩⟩
    · exact congrArg (fun j : Episode => { j with
        quiet := if r.required = 0 then j.quiet + 1 else 0, previous := r.permitted.natAbs }) frame
    · have posts : (e.accumulate s.profile false r).2 = true := reports.mpr short
      rw [posts, State.postIf_true]
      exact (State.post_withDelivery s _ _ .shortfall).symm
    · have silent : (e.accumulate s.profile false r).2 = false := Bool.eq_false_iff.mpr (mt reports.mp none_)
      rw [silent]
      rfl
    · dsimp only
      rw [if_neg (by rw [Episode.ends_iff]; omega)]
    · dsimp only
      rw [if_pos (by rw [Episode.ends_iff]; omega), State.closeEpisode_eq]
      simp only [State.withDelivery_delivery, State.withDelivery_fleet, State.withDelivery_profile,
        State.withDelivery_clock, State.postIf_profile, State.postIf_clock]
      obtain ⟨slot, second⟩ := e.accumulate_opened s.profile false r
      rw [← e.accumulate_number s.profile false r, ← slot, ← second]
      rfl

end Sys2Proof.Machine

/-! PROOFS. A dispatch cycle: its frame, its setpoints, and the sum of its shares (R107 to R120). -/

namespace Sys2Proof.Machine

/-! ### What the Delivery Monitor leaves of the table (R139) -/

/-- The change of a record that leaves its components and its setpoint. -/
def keepsOrders (g : UnitRecord → UnitRecord) : Prop :=
  ∀ u, (g u).participation = u.participation ∧ (g u).restoration = u.restoration ∧ (g u).setpoint = u.setpoint

/-- The part after work of the Delivery Monitor: its own items, the table's records but for components and
setpoint, and the ports. -/
def State.monitored (s t : State) : Prop :=
  ∃ (g : UnitRecord → UnitRecord) (d : Delivery) (market operator : PortState), keepsOrders g ∧ t = { s with
    fleet := s.fleet.map fun e => (e.1, g e.2), delivery := d, market := market, operator := operator }

section Monitored

variable {s t u : State}

theorem State.monitored.trans (first : s.monitored t) (second : t.monitored u) : s.monitored u := by
  obtain ⟨g, d, x, y, orders, rfl⟩ := first
  obtain ⟨h, d', x', y', orders', rfl⟩ := second
  refine ⟨h ∘ g, d', x', y', fun r => ?_, by rw [List.map_map]; rfl⟩
  obtain ⟨one, two, three⟩ := orders r
  obtain ⟨one', two', three'⟩ := orders' (g r)
  exact ⟨one'.trans one, two'.trans two, three'.trans three⟩

theorem State.monitored_withDelivery (s : State) (d : Delivery) {g : UnitRecord → UnitRecord}
    (orders : keepsOrders g) : s.monitored (s.withDelivery d (s.fleet.map fun e => (e.1, g e.2))) :=
  ⟨g, d, s.market, s.operator, orders, rfl⟩

theorem State.monitored_delivery (s : State) (d : Delivery) : s.monitored (s.withDelivery d s.fleet) := by
  have same : (s.fleet.map fun e => (e.1, id e.2)) = s.fleet := List.map_id' _
  have := s.monitored_withDelivery d (g := id) fun _ => ⟨rfl, rfl, rfl⟩
  rwa [same] at this

theorem State.monitored_postIf (s : State) (c : Bool) (k : Notice) : s.monitored (s.postIf c k) :=
  ⟨id, s.delivery, _, _, fun _ => ⟨rfl, rfl, rfl⟩, by
    rw [State.postIf_ports]
    refine congrArg (fun f : Fleet => ({ s with
      fleet := f, market := (s.postIf c k).market, operator := (s.postIf c k).operator } : State)) ?_
    exact (List.map_id' _).symm⟩

theorem UnitRecord.opened_orders : keepsOrders UnitRecord.opened := fun u => by
  rw [UnitRecord.opened_eq]; exact ⟨rfl, rfl, rfl⟩

theorem State.monitored_closeEpisode (s : State) (e : Episode) : s.monitored (s.closeEpisode e) := by
  rw [State.closeEpisode_eq]
  exact (s.monitored_withDelivery _ (g := fun u => { u with baseline := none }) fun _ => ⟨rfl, rfl, rfl⟩).trans
    (State.monitored_postIf _ true .episodeClosed)

theorem State.monitored_account (s : State) (e : Episode) (opening : Bool) (r : DispatchResult) :
    s.monitored (s.account e opening r) := by
  rw [State.account_eq]
  dsimp only
  have counted : s.monitored ((s.postIf (e.accumulate s.profile opening r).2 .shortfall).withDelivery
      { s.delivery with episode := some ((e.accumulate s.profile opening r).1.countQuiet r.required) } s.fleet) := by
    have posted := s.monitored_postIf (e.accumulate s.profile opening r).2 .shortfall
    have table := State.monitored_delivery (s.postIf (e.accumulate s.profile opening r).2 .shortfall)
      { s.delivery with episode := some ((e.accumulate s.profile opening r).1.countQuiet r.required) }
    rw [State.postIf_fleet] at table
    exact posted.trans table
  split
  · exact counted.trans (State.monitored_closeEpisode _ _)
  · exact counted

theorem State.monitored_openEpisode (s : State) (number : Nat) : s.monitored (s.openEpisode number) := by
  rw [State.openEpisode_eq]
  have posted := (s.monitored_postIf true .episodeOpen).trans
    (State.monitored_postIf _ (s.fleet.any fun x => x.2.inTest) .test)
  have table := State.monitored_withDelivery
    ((s.post .episodeOpen).postIf (s.fleet.any fun x => x.2.inTest) .test)
    ⟨some (Episode.opening number s.clock.slot s.clock.second), s.delivery.log,
      if maxWord ≤ number then none else some (number + 1)⟩ UnitRecord.opened_orders
  rw [State.postIf_fleet, State.post_fleet] at table
  exact posted.trans table

theorem State.monitored_takeResult (s : State) (r : DispatchResult) : s.monitored (s.takeResult r) := by
  have same : s.monitored s := s.monitored_postIf false .test
  unfold State.takeResult
  split
  · exact s.monitored_account _ _ _
  · split
    · exact same
    · split
      · exact same
      · exact (s.monitored_openEpisode _).trans (State.monitored_account _ _ _ _)

end Monitored

/-! ### The frame of a cycle (R79, R107, R108) -/

section Cycle

variable (s : State)

/-- What the cycle computation writes. -/
theorem State.cycleComputation_frame : s.cycleComputation = { s with
    book := s.cycleComputation.book, plan := s.cycleComputation.plan, marked := s.cycleComputation.marked
    levels := { s.levels with holdover := s.cycleInputs.holdover }
    market := s.cycleComputation.market, operator := s.cycleComputation.operator } := by
  conv_lhs => rw [State.cycleComputation_eq, State.postIf_ports]
  rw [State.cycleComputation_eq, State.postIf_book, State.postIf_plan, State.postIf_marked]
  rfl

/-- The dispatch result of a cycle (R109, R110, R112). -/
def State.cycleResult : DispatchResult := formResult s.cycleComputation.book.levelList s.thermal s.fleet

theorem State.apportion_eq : s.cycleComputation.apportion = { s.cycleComputation with
    fleet := s.fleet.map (dispatchUnit s.fleet s.apportioner.rotation s.cycleResult.asked s.restores s.profile
      s.thermal)
    apportioner := ⟨some ⟨s.time, 2000000⟩, s.cycleResult, advanceIndex s.apportioner.rotation⟩ } := by
  unfold State.apportion State.cycleResult State.restores State.episodeOpen
  rw [State.cycleComputation_frame]
  rfl

theorem State.dispatchCycle_eq : s.dispatchCycle = s.cycleComputation.apportion.takeResult s.cycleResult := by
  have result : s.cycleComputation.apportion.apportioner.result = s.cycleResult := by rw [State.apportion_eq]
  unfold State.dispatchCycle
  exact congrArg (fun r => s.cycleComputation.apportion.takeResult r) result

end Cycle

/-! ### Restoration and setpoints (R116 to R119) -/

theorem restorationOf_eligible {p : Profile} {t : Thermal} {u : UnitRecord} {r : Report}
    (eligible : u.eligible = true) (report : u.report = some r) :
    restorationOf true p t u = restorationPower p t r := by
  unfold restorationOf; rw [eligible, report]; rfl

theorem restorationOf_none {p : Profile} {t : Thermal} {u : UnitRecord} : restorationOf false p t u = 0 := by
  unfold restorationOf; rw [Bool.false_and]

theorem State.restores_iff (s : State) : s.restores = true ↔
    s.delivery.episode = none ∧ s.meter.state = .valid ∧ 0 < s.profile.get .restoration := by
  simp [State.restores, State.episodeOpen, and_assoc]

section Setpoint

variable {u : UnitRecord} {r : Report} {share back : Int}

theorem composeSetpoint_eligible (report : u.report = some r) (eligible : u.eligible = true) :
    composeSetpoint u share back = clamp (share + back) (-(r.maxCharge : Int)) r.maxDischarge := by
  unfold composeSetpoint clampToLimits; rw [report]; exact if_pos eligible

theorem composeSetpoint_test {test : TestRecord} (report : u.report = some r) (mode : u.mode = .test test)
    (live : u.link = .live) :
    composeSetpoint u share back = clamp test.power (-(r.maxCharge : Int)) r.maxDischarge := by
  have ineligible : ¬u.eligible = true := by
    rw [UnitRecord.eligible_iff]
    rintro ⟨-, -, idle, -⟩
    simp [UnitRecord.inTest, mode] at idle
  unfold composeSetpoint clampToLimits
  simp [report, ineligible, mode, live]

theorem composeSetpoint_plain {m : EnrolMode} (ineligible : u.eligible = false) (mode : u.mode = .plain m) :
    composeSetpoint u share back = 0 := by
  unfold composeSetpoint
  rw [ineligible, mode]
  cases u.report <;> rfl

theorem composeSetpoint_away (away : u.link ≠ .live) : composeSetpoint u share back = 0 := by
  have ineligible : u.eligible = false := by
    rw [Bool.eq_false_iff, Ne, UnitRecord.eligible_iff]
    exact fun h => away h.1
  unfold composeSetpoint
  cases u.report with
  | none => rfl
  | some r =>
    simp only [ineligible, Bool.false_eq_true, if_false]
    cases u.mode <;> simp [away]

end Setpoint

/-- Settles O48: the cycle computation, the apportionment over its list, and the Delivery Monitor's taking of the
result, which leaves components and setpoints. -/
theorem dispatchCycleWritesSetpoints : Obligations.DispatchCycleWritesSetpoints := by
  intro s running
  obtain ⟨g, d, x, y, orders, taken⟩ := s.cycleComputation.apportion.monitored_takeResult s.cycleResult
  have cycle : exec .dispatchCycle s = .next (s.cycleComputation.apportion.takeResult s.cycleResult) :=
    (whenRunning_running State.dispatchCycle running).trans (congrArg _ s.dispatchCycle_eq)
  have whole := s.cycleComputation_frame
  refine ⟨s.cycleComputation.apportion, _, cycle, ?_, ?_, ?_, ?_, ?_, ?_, ?_, ?_, ?_, ?_, ?_, fun k e f before after => ?_⟩
  · have result : (s.cycleComputation.apportion.takeResult s.cycleResult).apportioner.result = s.cycleResult := by
      rw [taken, s.apportion_eq]
    exact (congrArg (fun r => s.cycleComputation.apportion.takeResult r) result).symm
  · rw [taken, s.apportion_eq]
  · rw [taken, s.apportion_eq, whole]
  · rw [taken, s.apportion_eq, whole, ← s.cycleInputs_holdover]
  · rw [taken, s.apportion_eq]
    unfold advanceIndex
    dsimp only
    split_ifs <;> omega
  · rw [taken, s.apportion_eq]
  · rw [taken, s.apportion_eq]; rfl
  · rw [taken, s.apportion_eq]
  · rw [s.apportion_eq, List.length_map]
  · rw [taken, s.apportion_eq]
    simp only [List.map_map]
    rfl
  · rw [taken]
    dsimp only
    rw [List.map_map]
    refine List.map_congr_left fun e _ => ?_
    obtain ⟨share, back, setpoint⟩ := orders e.2
    simp only [Function.comp, share, back, setpoint]
  · have unit : f = dispatchUnit s.fleet s.apportioner.rotation s.cycleResult.asked s.restores s.profile s.thermal e := by
      rw [s.apportion_eq] at after
      dsimp only at after
      rw [List.getElem?_map, before] at after
      exact (Option.some.inj after).symm
    subst unit
    refine ⟨rfl, fun none_ => ?_, fun r closed valid restores eligible report => ?_,
      fun r report eligible => composeSetpoint_eligible report eligible,
      fun r test report mode live => composeSetpoint_test report mode live,
      fun m ineligible mode => composeSetpoint_plain ineligible mode, composeSetpoint_away⟩
    · change restorationOf s.restores s.profile s.thermal e.2 = 0
      cases eligible : e.2.eligible with
      | false => exact restorationOf_ineligible eligible
      | true =>
        have still : s.restores = false := by
          rw [Bool.eq_false_iff, Ne, State.restores_iff]
          rintro ⟨closed, valid, restores⟩
          rcases none_ with opened | invalid | none_ | ineligible
          · rw [closed] at opened; cases opened
          · exact invalid valid
          · omega
          · rw [eligible] at ineligible; cases ineligible
        rw [still, restorationOf_none]
    · refine ⟨_, _, _, _, rfl, rfl, rfl, rfl, ?_⟩
      change restorationOf s.restores s.profile s.thermal e.2 = _
      rw [s.restores_iff.mpr ⟨closed, valid, restores⟩, restorationOf_eligible eligible report]
      unfold restorationPower trunc10 energyTarget
      dsimp only
      rw [Thermal.permit_eq, clamp_eq_max_min (by omega)]

end Sys2Proof.Machine

/-! PROOFS. The shares of a cycle sum to the fleet cap, each within its unit's weight (R113 to R115). -/

namespace Sys2Proof.Machine

/-! ### The proportional shares (R113) -/

section Proportional

variable {asked weight total : Nat}

theorem proportional_eq (asked weight total : Nat) :
    proportional asked weight total = if weight = 0 then 0 else asked * weight / total / 10 * 10 := rfl

theorem proportional_emod : proportional asked weight total % 10 = 0 := by
  rw [proportional_eq]; split
  · rfl
  · exact Nat.mul_mod_left _ _

/-- A share is no more than its proportion. -/
theorem total_mul_proportional_le : total * proportional asked weight total ≤ asked * weight := by
  rw [proportional_eq]
  split
  · simp
  · calc total * (asked * weight / total / 10 * 10)
      _ ≤ total * (asked * weight / total) := Nat.mul_le_mul_left _ (Nat.div_mul_le_self _ _)
      _ ≤ asked * weight := Nat.mul_div_le _ _

/-- Flooring loses less than 10 W of a proportion. -/
theorem mul_le_total_mul_proportional (positive : 0 < total) (weighed : weight ≠ 0) :
    asked * weight ≤ total * (proportional asked weight total + 10) := by
  rw [proportional_eq, if_neg weighed]
  have quotient := Nat.lt_mul_div_succ (asked * weight) positive
  have tens : asked * weight / total + 1 ≤ asked * weight / total / 10 * 10 + 10 := by omega
  exact quotient.le.trans (Nat.mul_le_mul_left _ tens)

/-- A share is within its weight, and 10 W below it unless all is asked. -/
theorem proportional_le (asked_le : asked ≤ total) (tens : weight % 10 = 0) :
    proportional asked weight total ≤ weight ∧
      (weight ≠ 0 → asked < total → proportional asked weight total + 10 ≤ weight) := by
  have most := total_mul_proportional_le (asked := asked) (weight := weight) (total := total)
  constructor
  · rcases Nat.eq_zero_or_pos total with none_ | positive
    · rw [proportional_eq, none_]; simp
    · exact Nat.le_of_mul_le_mul_left (most.trans (Nat.mul_le_mul_right _ asked_le)) positive
  · intro weighed spare
    have below : proportional asked weight total < weight :=
      Nat.lt_of_mul_lt_mul_left (most.trans_lt (Nat.mul_lt_mul_of_pos_right spare (Nat.pos_of_ne_zero weighed)))
    have share := proportional_emod (asked := asked) (weight := weight) (total := total)
    omega

/-- Where all is asked, each share is its weight. -/
theorem proportional_all (tens : weight % 10 = 0) (positive : 0 < total) :
    proportional total weight total = weight := by
  rw [proportional_eq, Nat.mul_div_cancel_left _ positive]
  split
  · exact Eq.symm ‹_›
  · omega

end Proportional

section Shares

variable {α : Type} (l : List α) (w : α → Nat) (asked total : Nat)

/-- The shares of a list of weights. -/
def sharesSum : Nat := (l.map fun e => proportional asked (w e) total).sum

theorem total_mul_sharesSum_le : total * sharesSum l w asked total ≤ asked * (l.map w).sum := by
  unfold sharesSum
  induction l with
  | nil => simp
  | cons e l ih =>
    simp only [List.map_cons, List.sum_cons, Nat.mul_add]
    exact Nat.add_le_add total_mul_proportional_le ih

theorem mul_sum_le_sharesSum (positive : 0 < total) : asked * (l.map w).sum ≤
    total * (sharesSum l w asked total + 10 * (l.filter fun e => decide (w e ≠ 0)).length) := by
  unfold sharesSum
  induction l with
  | nil => simp
  | cons e l ih =>
    simp only [List.map_cons, List.sum_cons, Nat.mul_add, List.filter_cons] at ih ⊢
    by_cases weighed : w e ≠ 0
    · have one := mul_le_total_mul_proportional (asked := asked) positive weighed
      rw [if_pos (by simpa using weighed), List.length_cons]
      rw [Nat.mul_add] at one ⊢
      linarith
    · rw [not_not] at weighed
      rw [if_neg (by simp [weighed]), weighed]
      simp only [proportional_eq, if_true, Nat.mul_zero, Nat.zero_add] at ih ⊢
      exact ih

/-- What the flooring lost is handed out 10 W at a time, to no more than the units that weigh (R114). -/
theorem sharesSum_bounds (sums : total = (l.map w).sum) (asked_le : asked ≤ total) :
    sharesSum l w asked total ≤ asked ∧
      asked ≤ sharesSum l w asked total + 10 * (l.filter fun e => decide (w e ≠ 0)).length := by
  rcases Nat.eq_zero_or_pos total with none_ | positive
  · have zero : asked = 0 := by omega
    simp [sharesSum, proportional_eq, none_, zero]
  · have low := total_mul_sharesSum_le l w asked total
    have high := mul_sum_le_sharesSum l w asked total positive
    rw [← sums, Nat.mul_comm asked] at low high
    exact ⟨Nat.le_of_mul_le_mul_left low positive, Nat.le_of_mul_le_mul_left high positive⟩

theorem sharesSum_emod : sharesSum l w asked total % 10 = 0 := by
  unfold sharesSum
  induction l with
  | nil => rfl
  | cons e l ih =>
    have one := proportional_emod (asked := asked) (weight := w e) (total := total)
    rw [List.map_cons, List.sum_cons]
    omega

/-- Where all is asked, the flooring loses nothing. -/
theorem sharesSum_all (tens : ∀ e ∈ l, w e % 10 = 0) (positive : 0 < total) :
    sharesSum l w total total = (l.map w).sum :=
  congrArg List.sum (List.map_congr_left fun e mem => proportional_all (tens e mem) positive)

end Shares

/-! ### The remainder pass (R114) -/

/-- A remainder in tens goes to the first of the order, 10 W each. -/
theorem remainderPass_eq_take (l : List Nat) {rem : Nat} (tens : rem % 10 = 0) :
    remainderPass l rem = l.take (rem / 10) := by
  induction l generalizing rem with
  | nil => simp [remainderPass]
  | cons a l ih =>
    unfold remainderPass
    split
    · rename_i none_; simp [none_]
    · obtain ⟨k, tens_⟩ : ∃ k, rem / 10 = k + 1 := ⟨rem / 10 - 1, by omega⟩
      rw [ih (by omega), tens_, List.take_succ_cons]
      congr 2; omega

theorem passOrder_perm (rotation : Nat) (l : List Nat) : (passOrder rotation l).Perm l := by
  have rest : (fun a => decide (a < rotation)) = fun a => !decide (rotation ≤ a) := by
    funext a
    rw [Bool.eq_iff_iff, Bool.not_eq_true', decide_eq_true_iff, decide_eq_false_iff_not, not_le]
  unfold passOrder
  rw [rest]
  exact List.filter_append_perm _ l

/-- The 10 W shares of some of a list's members. -/
theorem sum_tens {ids taken : List Nat} (once : ids.Nodup) (distinct : taken.Nodup) (within : taken ⊆ ids) :
    (ids.map fun a => if taken.contains a then 10 else 0).sum = 10 * taken.length := by
  have count : ∀ l : List Nat, (l.map fun a => if taken.contains a then 10 else 0).sum =
      10 * (l.filter fun a => taken.contains a).length := by
    intro l
    induction l with
    | nil => rfl
    | cons a l ih =>
      rw [List.map_cons, List.sum_cons, ih, List.filter_cons]
      split
      · rw [List.length_cons]; ring
      · rw [Nat.zero_add]
  have same : (ids.filter fun a => taken.contains a).Perm taken := by
    refine (List.perm_ext_iff_of_nodup (once.filter _) distinct).mpr fun a => ?_
    rw [List.mem_filter, List.contains_iff_mem]
    exact ⟨fun h => h.2, fun mem => ⟨within mem, mem⟩⟩
  rw [count, same.length_eq]

/-! ### The weights and the cap (R111, R112) -/

theorem UnitRecord.weight_emod {opened : Bool} {u : UnitRecord} (h : u.sound opened) (side : Side) :
    u.weight.get side % 10 = 0 := by
  obtain ⟨-, -, -, mode, -, -, up, down, -⟩ := h
  have live : u.live.get side % 10 = 0 := by cases side; exacts [up, down]
  cases eligible : u.eligible with
  | false =>
    rw [UnitRecord.weight_of_ineligible eligible]
    cases side <;> rfl
  | true =>
    unfold UnitRecord.weight
    rw [if_pos eligible]
    split
    · rename_i d manual
      rw [manual] at mode
      obtain ⟨dUp, dDown, -, -⟩ := mode
      have least : ∀ {a b : Nat}, a % 10 = 0 → b % 10 = 0 → Nat.min a b % 10 = 0 := by
        intro a b ha hb
        rcases min_choice a b with h | h <;> rw [show Nat.min a b = min a b from rfl, h]
        exacts [ha, hb]
      cases side
      · exact least up dUp
      · exact least down dDown
    · exact live

/-- R″ is no more than the weights of its direction. -/
theorem fleetCap_natAbs_le (x : Int) (w : Sides) : (fleetCap x w).natAbs ≤ w.get (shareSide (fleetCap x w)) := by
  have inside := trunc10_mem_uIcc (clamp x (-(w.down : Int)) w.up)
  have low := (clamp_mem_Icc (x := x) (show -(w.down : Int) ≤ w.up by omega)).1
  have high := (clamp_mem_Icc (x := x) (show -(w.down : Int) ≤ w.up by omega)).2
  rw [Set.mem_uIcc] at inside
  unfold fleetCap shareSide
  split
  · change _ ≤ w.up; omega
  · change _ ≤ w.down; omega

/-! ### The components of a cycle -/

section Components

variable {f : Fleet} {rotation : Nat} {asked : Int}

theorem remainder_eq (f : Fleet) (asked : Int) : remainder f asked = asked.natAbs -
    sharesSum f (entryWeight (shareSide asked)) asked.natAbs ((Fleet.weights f).get (shareSide asked)) := rfl

theorem remainder_emod (tens : asked % 10 = 0) : remainder f asked % 10 = 0 := by
  have shares := sharesSum_emod f (entryWeight (shareSide asked)) asked.natAbs
    ((Fleet.weights f).get (shareSide asked))
  rw [remainder_eq]
  omega

/-- The addresses that weigh in R″'s direction, in the order of the remainder pass. -/
def weighed (f : Fleet) (rotation : Nat) (asked : Int) : List Nat :=
  passOrder rotation ((f.filter fun e => decide (entryWeight (shareSide asked) e ≠ 0)).map Prod.fst)

theorem takers_eq_take (tens : asked % 10 = 0) :
    takers f rotation asked = (weighed f rotation asked).take (remainder f asked / 10) :=
  remainderPass_eq_take _ (remainder_emod tens)

theorem weighed_sublist_addresses (f : Fleet) (asked : Int) :
    ((f.filter fun e => decide (entryWeight (shareSide asked) e ≠ 0)).map Prod.fst).Sublist (f.map Prod.fst) :=
  List.filter_sublist.map _

theorem takers_spec (rising : f.rising) (tens : asked % 10 = 0)
    (within : asked.natAbs ≤ (Fleet.weights f).get (shareSide asked)) :
    (takers f rotation asked).Nodup ∧ takers f rotation asked ⊆ f.map Prod.fst ∧
      10 * (takers f rotation asked).length = remainder f asked := by
  have perm := passOrder_perm rotation
    ((f.filter fun e => decide (entryWeight (shareSide asked) e ≠ 0)).map Prod.fst)
  have once : (f.map Prod.fst).Nodup := rising.imp (fun h => Nat.ne_of_lt h)
  have sub : (takers f rotation asked).Sublist (weighed f rotation asked) := by
    rw [takers_eq_take tens]; exact List.take_sublist _ _
  refine ⟨(perm.nodup_iff.mpr (once.sublist (weighed_sublist_addresses f asked))).sublist sub,
    fun a taken => (weighed_sublist_addresses f asked).subset (perm.subset (sub.subset taken)), ?_⟩
  have enough := (sharesSum_bounds f (entryWeight (shareSide asked)) asked.natAbs _
    (Fleet.weights_get f (shareSide asked)) within).2
  have size : (weighed f rotation asked).length =
      (f.filter fun e => decide (entryWeight (shareSide asked) e ≠ 0)).length := by
    rw [weighed, perm.length_eq, List.length_map]
  have ten := remainder_emod (f := f) tens
  rw [takers_eq_take tens, List.length_take, size, min_eq_left]
  · omega
  · rw [remainder_eq] at ten ⊢
    omega

/-- The magnitude of a component (R113, R114). -/
def componentSize (f : Fleet) (rotation : Nat) (asked : Int) (e : Nat × UnitRecord) : Nat :=
  proportional asked.natAbs (entryWeight (shareSide asked) e) ((Fleet.weights f).get (shareSide asked))
    + if (takers f rotation asked).contains e.1 then 10 else 0

theorem participation_eq (e : Nat × UnitRecord) :
    participation f rotation asked e = asked.sign * (componentSize f rotation asked e : Int) := rfl

theorem sum_signed {α : Type} (l : List α) (sign : Int) (size : α → Nat) :
    (l.map fun e => sign * (size e : Int)).sum = sign * ((l.map size).sum : Nat) := by
  induction l with
  | nil => simp
  | cons e l ih => simp only [List.map_cons, List.sum_cons, ih]; push_cast; ring

/-- The components sum exactly to R″ (R115). -/
theorem participation_sum (rising : f.rising) (tens : asked % 10 = 0)
    (within : asked.natAbs ≤ (Fleet.weights f).get (shareSide asked)) :
    (f.map (participation f rotation asked)).sum = asked := by
  obtain ⟨distinct, addresses, rest⟩ := takers_spec (rotation := rotation) rising tens within
  have once : (f.map Prod.fst).Nodup := rising.imp (fun h => Nat.ne_of_lt h)
  have bonus := sum_tens once distinct addresses
  rw [List.map_map] at bonus
  have shares := (sharesSum_bounds f (entryWeight (shareSide asked)) asked.natAbs _
    (Fleet.weights_get f (shareSide asked)) within).1
  have sizes : (f.map (componentSize f rotation asked)).sum = asked.natAbs := by
    unfold componentSize
    rw [List.sum_map_add]
    change sharesSum f _ _ _ + (f.map ((fun a => if (takers f rotation asked).contains a then 10 else 0)
      ∘ Prod.fst)).sum = _
    rw [bonus, rest, remainder_eq]
    omega
  calc (f.map (participation f rotation asked)).sum
    _ = asked.sign * ((f.map (componentSize f rotation asked)).sum : Nat) := sum_signed f _ _
    _ = asked := by rw [sizes, Int.sign_mul_natAbs]

/-- A component is within its unit's weight in R″'s direction (R115). -/
theorem componentSize_le (rising : f.rising) (tens : asked % 10 = 0)
    (within : asked.natAbs ≤ (Fleet.weights f).get (shareSide asked))
    (weights : ∀ e ∈ f, entryWeight (shareSide asked) e % 10 = 0) {e : Nat × UnitRecord} (mem : e ∈ f) :
    componentSize f rotation asked e ≤ entryWeight (shareSide asked) e := by
  obtain ⟨least, spare⟩ := proportional_le within (weights e mem)
  unfold componentSize
  split
  · rename_i taken
    rw [List.contains_iff_mem] at taken
    have some_ : 0 < remainder f asked := by
      rw [← (takers_spec (rotation := rotation) rising tens within).2.2]
      have := List.length_pos_of_mem taken
      omega
    have weighs : entryWeight (shareSide asked) e ≠ 0 := by
      intro none_
      obtain ⟨d, weighed, same⟩ := List.mem_map.mp (mem_passOrder ((remainderPass_sublist _ _).subset taken))
      obtain ⟨held, heavy⟩ := List.mem_filter.mp weighed
      have entry : d = e := List.inj_on_of_nodup_map (rising.imp (fun h => Nat.ne_of_lt h)) held mem same
      subst entry
      simp [none_] at heavy
    refine spare weighs (lt_of_le_of_ne within fun all => ?_)
    have sum : sharesSum f (entryWeight (shareSide asked)) asked.natAbs
        ((Fleet.weights f).get (shareSide asked)) = asked.natAbs := by
      rcases Nat.eq_zero_or_pos asked.natAbs with none_ | positive
      · rw [remainder_eq, none_] at some_; omega
      · rw [← all, sharesSum_all _ _ _ weights positive, all, Fleet.weights_get]; rfl
    rw [remainder_eq, sum] at some_
    omega
  · exact least

end Components

/-- Settles O47: the shares by their flooring, the remainder by the pass; `participation_sum` and
`componentSize_le` are the law of R115. -/
theorem sharesSumToTheCap : Obligations.SharesSumToTheCap := by
  intro s running sound
  obtain ⟨g, d, x, y, orders, taken⟩ := s.cycleComputation.apportion.monitored_takeResult s.cycleResult
  have cycle : exec .dispatchCycle s = .next (s.cycleComputation.apportion.takeResult s.cycleResult) :=
    (whenRunning_running State.dispatchCycle running).trans (congrArg _ s.dispatchCycle_eq)
  obtain ⟨rising, -, units, -⟩ := sound
  have tens : s.cycleResult.asked % 10 = 0 := fleetCap_emod_ten _ _
  have within : s.cycleResult.asked.natAbs ≤ (Fleet.weights s.fleet).get (shareSide s.cycleResult.asked) :=
    fleetCap_natAbs_le _ _
  have table : (s.cycleComputation.apportion.takeResult s.cycleResult).fleet =
      s.fleet.map fun e => (e.1, g (dispatchUnit s.fleet s.apportioner.rotation s.cycleResult.asked s.restores
        s.profile s.thermal e).2) := by
    rw [taken, s.apportion_eq]
    dsimp only
    rw [List.map_map]; rfl
  have component : ∀ e : Nat × UnitRecord, (g (dispatchUnit s.fleet s.apportioner.rotation s.cycleResult.asked
      s.restores s.profile s.thermal e).2).participation =
        participation s.fleet s.apportioner.rotation s.cycleResult.asked e := fun e => (orders _).1
  have asked : (s.cycleComputation.apportion.takeResult s.cycleResult).apportioner.result.asked =
      s.cycleResult.asked := by rw [taken, s.apportion_eq]
  have side : ∀ w : Sides, (if 0 < s.cycleResult.asked then w.up else w.down) =
      w.get (shareSide s.cycleResult.asked) := by
    intro w; unfold shareSide; split <;> rfl
  refine ⟨_, s.cycleResult.asked, entryWeight (shareSide s.cycleResult.asked), _, _, _, _, cycle, asked.symm, ?_, ?_,
    fun e => (side _).symm, rfl, fun e => rfl, rfl, rfl, ?_⟩
  · rw [table, List.map_map]
    simp only [Function.comp_def, component]
    exact participation_sum rising tens within
  · intro a u v before after
    rw [table] at after
    obtain ⟨e, mem, entry⟩ := List.mem_map.mp (Fleet.mem_of_get after)
    obtain ⟨place, written⟩ := Prod.mk.inj entry
    have same : e = (a, u) := List.inj_on_of_nodup_map (rising.imp (fun h => Nat.ne_of_lt h)) mem
      (Fleet.mem_of_get before) place
    have size := componentSize_le (rotation := s.apportioner.rotation) rising tens within
      (fun e mem => UnitRecord.weight_emod (units e mem) _) mem
    rw [← written, component, participation_eq, side]
    rw [same] at size ⊢
    refine ⟨?_, fun up => mul_nonneg (Int.sign_nonneg_iff.mpr up) (Int.natCast_nonneg _), fun down =>
      mul_nonpos_of_nonpos_of_nonneg (Int.sign_nonpos_iff.mpr down) (Int.natCast_nonneg _)⟩
    rw [Int.natAbs_mul, Int.natAbs_natCast]
    have one : s.cycleResult.asked.sign.natAbs ≤ 1 := by
      rcases Int.sign_trichotomy s.cycleResult.asked with h | h | h <;> rw [h] <;> decide
    calc s.cycleResult.asked.sign.natAbs * componentSize s.fleet s.apportioner.rotation s.cycleResult.asked (a, u)
      _ ≤ 1 * componentSize s.fleet s.apportioner.rotation s.cycleResult.asked (a, u) := Nat.mul_le_mul_right _ one
      _ ≤ u.weight.get (shareSide s.cycleResult.asked) := by rw [one_mul]; exact size
  · rw [table, List.map_map]
    refine List.map_congr_left fun e _ => ?_
    simp only [Function.comp, component, participation_eq, componentSize, takers_eq_take tens, weighed, remainder_eq,
      sharesSum, Fleet.weights_get, ne_eq, decide_not]
    rfl

end Sys2Proof.Machine

/-! PROOFS. Headroom and risk: what a unit's figures are (R39 to R42, R46), and which commitments the checks mark
(R53, R54). -/

namespace Sys2Proof.Machine

/-! ### The latest-accepted first (R53, R54) -/

theorem insertLatest_perm (c : Commitment) (l : List Commitment) : (insertLatest c l).Perm (c :: l) := by
  induction l with
  | nil => exact .refl _
  | cons d l ih =>
    unfold insertLatest
    split
    · exact .refl _
    · exact (ih.cons d).trans (.swap c d l)

theorem latestFirst_perm (l : List Commitment) : (latestFirst l).Perm l := by
  induction l with
  | nil => exact .refl _
  | cons c l ih => exact (insertLatest_perm c _).trans (ih.cons c)

/-- A list whose acceptance sequences fall. -/
def fallingSeq (l : List Commitment) : Prop := l.Pairwise fun a b => b.seq ≤ a.seq

theorem insertLatest_falling {c : Commitment} {l : List Commitment} (falls : fallingSeq l) :
    fallingSeq (insertLatest c l) := by
  induction l with
  | nil => exact List.pairwise_singleton _ _
  | cons d l ih =>
    obtain ⟨first, rest⟩ := List.pairwise_cons.mp falls
    unfold insertLatest
    split
    · rename_i late
      exact List.pairwise_cons.mpr ⟨List.forall_mem_cons.mpr ⟨late, fun e mem => (first e mem).trans late⟩, falls⟩
    · rename_i early
      refine List.pairwise_cons.mpr ⟨fun e mem => ?_, ih rest⟩
      rcases List.mem_cons.mp ((insertLatest_perm c l).subset mem) with rfl | mem
      · omega
      · exact first e mem

theorem latestFirst_falling (l : List Commitment) : fallingSeq (latestFirst l) := by
  induction l with
  | nil => exact .nil
  | cons c l ih => exact insertLatest_falling ih

/-- Of distinct sequences, each one later falls strictly. -/
theorem latestFirst_strict {l : List Commitment} (distinct : (l.map Commitment.seq).Nodup) :
    (latestFirst l).Pairwise fun a b => b.seq < a.seq := by
  have once : (latestFirst l).Pairwise fun a b => a.seq ≠ b.seq :=
    List.pairwise_map.mp (((latestFirst_perm l).map _).nodup_iff.mpr distinct)
  exact ((latestFirst_falling l).and once).imp fun h => lt_of_le_of_ne h.1 (Ne.symm h.2)

/-! ### What a check marks -/

section Marking

variable (side : Side) (limit tally : Nat × Nat)

/-- The tally less some candidates is within the limits. -/
def fitsLess (taken : List Commitment) : Prop :=
  tally.1 ≤ limit.1 + (taken.map fun c => c.capacity.get side).sum ∧
    tally.2 ≤ limit.2 + (taken.map fun c => c.requirement.get side).sum

/-- A check marks the first candidates of its order, as few as make the side fit. -/
theorem markUntilFit_spec (l : List Commitment) : ∃ marked rest, l = marked ++ rest ∧
    markUntilFit side limit.1 limit.2 l tally.1 tally.2 = marked.map Commitment.id ∧
    (rest = [] ∨ fitsLess side limit tally marked) ∧
    ∀ before c after, marked = before ++ c :: after → ¬fitsLess side limit tally before := by
  induction l generalizing tally with
  | nil => exact ⟨[], [], rfl, rfl, .inl rfl, by simp⟩
  | cons c l ih =>
    by_cases fits : tally.1 ≤ limit.1 ∧ tally.2 ≤ limit.2
    · refine ⟨[], c :: l, rfl, if_pos fits, .inr (by simpa [fitsLess] using fits), by simp⟩
    · obtain ⟨marked, rest, whole, marks, ends, needed⟩ :=
        ih (tally.1 - c.capacity.get side, tally.2 - c.requirement.get side)
      have shift : ∀ taken, fitsLess side limit (tally.1 - c.capacity.get side, tally.2 - c.requirement.get side) taken
          ↔ fitsLess side limit tally (c :: taken) := by
        intro taken
        simp only [fitsLess, List.map_cons, List.sum_cons]
        omega
      refine ⟨c :: marked, rest, by rw [whole]; rfl, (if_neg fits).trans (congrArg (c.id :: ·) marks),
        ends.imp id (shift marked).mp, fun before d after parts => ?_⟩
      cases before with
      | nil => simpa [fitsLess] using fits
      | cons e before =>
        obtain ⟨same, tail⟩ := List.cons.inj parts
        subst same
        exact mt (shift before).mpr (needed before d after tail)

theorem fitsWithout_iff {candidates l : List Commitment} (perm : l.Perm candidates) (taken : Commitment → Bool) :
    FitsWithout side limit tally candidates taken ↔ fitsLess side limit tally (l.filter taken) := by
  unfold FitsWithout fitsLess
  rw [((perm.filter taken).map _).sum_eq, ((perm.filter taken).map _).sum_eq]

/-- The members of the first part of a list of distinct ids, told by their ids. -/
theorem filter_ids {marked rest : List Commitment} (once : ((marked ++ rest).map Commitment.id).Nodup) :
    ((marked ++ rest).filter fun c => (marked.map Commitment.id).contains c.id) = marked := by
  rw [List.map_append, List.nodup_append] at once
  obtain ⟨-, -, apart⟩ := once
  have own : (marked.filter fun c => (marked.map Commitment.id).contains c.id) = marked :=
    List.filter_eq_self.mpr fun c mem => List.contains_iff_mem.mpr (List.mem_map_of_mem mem)
  have others : (rest.filter fun c => (marked.map Commitment.id).contains c.id) = [] :=
    List.filter_eq_nil_iff.mpr fun c mem taken =>
      apart c.id (List.contains_iff_mem.mp taken) c.id (List.mem_map_of_mem mem) rfl
  rw [List.filter_append, own, others, List.append_nil]

/-- In a list whose sequences fall, those later than a member are those before it. -/
theorem filter_later {before after : List Commitment} {c : Commitment}
    (strict : (before ++ c :: after).Pairwise fun a b => b.seq < a.seq) :
    ((before ++ c :: after).filter fun d => decide (c.seq < d.seq)) = before := by
  obtain ⟨-, tail, across⟩ := List.pairwise_append.mp strict
  have later : (before.filter fun d => decide (c.seq < d.seq)) = before :=
    List.filter_eq_self.mpr fun d mem => decide_eq_true (across d mem c List.mem_cons_self)
  have earlier : ((c :: after).filter fun d => decide (c.seq < d.seq)) = [] := by
    refine List.filter_eq_nil_iff.mpr fun d mem later => ?_
    rw [decide_eq_true_iff] at later
    rcases List.mem_cons.mp mem with rfl | mem
    · exact lt_irrefl _ later
    · exact lt_asymm later ((List.pairwise_cons.mp tail).1 d mem)
  rw [List.filter_append, later, earlier, List.append_nil]

/-- The law of both checks, over candidates of distinct ids and sequences. -/
theorem marksLatestUntilFit {candidates : List Commitment} (ids : (candidates.map Commitment.id).Nodup)
    (seqs : (candidates.map Commitment.seq).Nodup) :
    MarksLatestUntilFit side limit tally candidates
      (markUntilFit side limit.1 limit.2 (latestFirst candidates) tally.1 tally.2) := by
  obtain ⟨marked, rest, whole, marks, ends, needed⟩ := markUntilFit_spec side limit tally (latestFirst candidates)
  have perm := latestFirst_perm candidates
  have strict := latestFirst_strict seqs
  rw [whole] at perm strict
  have once : ((marked ++ rest).map Commitment.id).Nodup := (perm.map _).nodup_iff.mpr ids
  have listed : ∀ c ∈ candidates, c.id ∈ marked.map Commitment.id → c ∈ marked := by
    intro c mem taken
    obtain ⟨d, held, same⟩ := List.mem_map.mp taken
    rwa [← List.inj_on_of_nodup_map ids (perm.subset (List.mem_append_left _ held)) mem same]
  rw [marks]
  refine ⟨fun i taken => ?_, fun c _ d mem later taken => ?_, fun capacity energy => ?_, ?_, fun c mem taken fits => ?_⟩
  · obtain ⟨c, held, same⟩ := List.mem_map.mp taken
    exact ⟨c, perm.subset (List.mem_append_left _ held), same⟩
  · obtain ⟨before, after, parts⟩ := List.append_of_mem (listed c ‹_› taken)
    have split : marked ++ rest = before ++ c :: (after ++ rest) := by rw [parts]; simp
    rw [split] at strict perm
    have early : d ∈ (before ++ c :: (after ++ rest)).filter fun d => decide (c.seq < d.seq) :=
      List.mem_filter.mpr ⟨perm.mem_iff.mpr mem, decide_eq_true later⟩
    rw [filter_later strict] at early
    exact List.mem_map_of_mem (parts ▸ List.mem_append_left _ early)
  · cases marked with
    | nil => rfl
    | cons c after => exact absurd ⟨by simpa using capacity, by simpa using energy⟩ (needed [] c after rfl)
  · rcases ends with none_ | fits
    · refine .inl fun c mem => List.mem_map_of_mem ?_
      have held := perm.mem_iff.mpr mem
      rwa [none_, List.append_nil] at held
    · refine .inr ((fitsWithout_iff side limit tally perm _).mpr ?_)
      rwa [filter_ids once]
  · obtain ⟨before, after, parts⟩ := List.append_of_mem (listed c mem taken)
    have split : marked ++ rest = before ++ c :: (after ++ rest) := by rw [parts]; simp
    rw [fitsWithout_iff side limit tally perm, split, filter_later (split ▸ strict)] at fits
    exact needed before c after parts fits

end Marking

/-- Settles O33: both checks are `markUntilFit` over their candidates. -/
theorem latestAcceptedAreMarkedFirst : Obligations.LatestAcceptedAreMarkedFirst := by
  intro records side ids seqs
  have candidates : ∀ p : Commitment → Bool, ((records.filter p).map Commitment.id).Nodup ∧
      ((records.filter p).map Commitment.seq).Nodup := fun p =>
    ⟨ids.sublist (List.filter_sublist.map _), seqs.sublist (List.filter_sublist.map _)⟩
  refine ⟨fun a => ?_, fun m row => ?_⟩
  · exact marksLatestUntilFit side (a.power.get side, a.energy.get side)
      (a.forceCapacity.get side, a.forceRequirement.get side) (candidates _).1 (candidates _).2
  · have same : (records.filter fun c => c.isPending && decide (0 < c.capacity.get side)
          && row.slot.any fun n => decide (c.start ≤ n ∧ n ≤ c.stop)) =
        records.filter fun c => c.isPending && c.coversRow row && decide (0 < c.capacity.get side) := by
      refine List.filter_congr fun c _ => ?_
      have covers : (row.slot.any fun n => decide (c.start ≤ n ∧ n ≤ c.stop)) = c.coversRow row := by
        unfold Commitment.coversRow
        cases row.slot <;> rfl
      rw [covers, Bool.and_right_comm]
    rw [same]
    exact marksLatestUntilFit side (scaled m (row.power.get side), scaled m (row.energy.get side))
      (row.committed.get side, row.required.get side) (candidates _).1 (candidates _).2

/-! ### One unit's figures (R22, R39 to R42, R46) -/

theorem BarReasons.empty_iff (b : BarReasons) : b.empty = true ↔ b = ⟨false, false, false⟩ := by
  obtain ⟨fault, optOut, lowResponse⟩ := b
  cases fault <;> cases optOut <;> cases lowResponse <;> decide

theorem UnitRecord.eligible_iff_mode (u : UnitRecord) : u.eligible = true ↔
    u.link = .live ∧ u.bars = ⟨false, false, false⟩ ∧ ∃ m, u.mode = .plain m ∧ m ≠ .off := by
  rw [UnitRecord.eligible_iff, BarReasons.empty_iff]
  refine and_congr_right fun _ => and_congr_right fun _ => ?_
  rw [Bool.eq_false_iff, Bool.eq_false_iff, Ne, Ne, UnitRecord.isOff_iff]
  unfold UnitRecord.inTest
  cases u.mode <;> simp

theorem Hold.covers_iff (h : Hold) (slot : Option Nat) :
    h.covers slot = true ↔ ∃ n, slot = some n ∧ h.start ≤ n ∧ n ≤ h.stop := by
  cases slot with
  | none => simp [Hold.covers]
  | some n => simp [Hold.covers]

theorem withdrawn_iff (holds : List Hold) (slot : Option Nat) :
    withdrawn holds slot = true ↔ ∃ h ∈ holds, h.kind = .withdraw ∧ h.covers slot = true := by
  simp [withdrawn, and_comm]

/-- The largest covering floor is the least bound of the covering floors (R40). -/
theorem holdFloor_le_iff (holds : List Hold) (slot : Option Nat) (x : Nat) : holdFloor holds slot ≤ x ↔
    ∀ h ∈ holds, ∀ e, h.kind = .floor e → h.covers slot = true → e ≤ x := by
  have from_ : ∀ acc, holds.foldl (fun acc h => match h.kind with
      | .floor e => if h.covers slot then max acc e else acc
      | .withdraw => acc) acc ≤ x ↔
      acc ≤ x ∧ ∀ h ∈ holds, ∀ e, h.kind = .floor e → h.covers slot = true → e ≤ x := by
    induction holds with
    | nil => simp
    | cons h holds ih =>
      intro acc
      rw [List.foldl_cons, ih, List.forall_mem_cons, ← and_assoc]
      refine and_congr_left fun _ => ?_
      cases kind : h.kind with
      | withdraw => simp
      | floor e =>
        by_cases covers : h.covers slot = true
        · simp [covers]
        · simp [covers]
  refine (from_ 0).trans ?_
  simp

theorem energyFloor_le_iff (p : Profile) (r : Report) (holds : List Hold) (slot : Option Nat) (x : Nat) :
    energyFloor p r holds slot ≤ x ↔ r.floor ≤ x ∧ r.capacity * p.nat .technicalFloor / 100 ≤ x ∧
      ∀ h ∈ holds, ∀ e, h.kind = .floor e → h.covers slot = true → e ≤ x := by
  rw [energyFloor, max_le_iff, max_le_iff, holdFloor_le_iff, and_assoc]

/-- A side's headroom is within its limit, and no more than its energy sustains (R41). -/
theorem headroomSide_le {limit energy minutes g : Nat} (factor : g ≤ 4096) :
    headroomSide limit energy minutes g ≤ limit ∧ headroomSide limit energy minutes g * minutes ≤ energy * 60 := by
  have scaled : headroomSide limit energy minutes g ≤ min limit (energy * 60 / minutes) := by
    have product := Nat.mul_le_mul_left (min limit (energy * 60 / minutes)) factor
    unfold headroomSide floor10
    omega
  refine ⟨scaled.trans (min_le_left _ _), ?_⟩
  calc headroomSide limit energy minutes g * minutes
    _ ≤ energy * 60 / minutes * minutes := Nat.mul_le_mul_right _ (scaled.trans (min_le_right _ _))
    _ ≤ energy * 60 := Nat.div_mul_le_self _ _

section Unit

variable {p : Profile} {slot : Option Nat} {u : UnitRecord} {r : Report}

theorem liveHeadroom_none (none_ : hasHeadroom u slot = false) :
    liveHeadroom p slot u = ⟨0, 0⟩ ∧ liveEnergy p slot u = ⟨0, 0⟩ := by
  unfold liveHeadroom liveEnergy
  rw [none_]
  exact ⟨rfl, rfl⟩

theorem liveHeadroom_some (some_ : hasHeadroom u slot = true) (report : u.report = some r) :
    liveHeadroom p slot u = ⟨headroomSide r.maxDischarge (r.soc - energyFloor p r u.holds slot)
        (p.nat .dispatchEndurance) u.g,
      headroomSide r.maxCharge (energyCeiling p r - r.soc) (p.nat .dispatchEndurance) u.g⟩ ∧
    liveEnergy p slot u = ⟨(r.soc - energyFloor p r u.holds slot) * u.g / 4096,
      (energyCeiling p r - r.soc) * u.g / 4096⟩ := by
  unfold liveHeadroom liveEnergy
  rw [some_, report]
  exact ⟨rfl, rfl⟩

theorem hasHeadroom_eq_false_iff : hasHeadroom u slot = false ↔
    u.eligible = false ∨ ∃ h ∈ u.holds, h.kind = .withdraw ∧ h.covers slot = true := by
  unfold hasHeadroom
  rw [Bool.and_eq_false_iff, Bool.not_eq_false', withdrawn_iff]

/-- The headroom of a reporting unit is within what its limits and energy sustain, with or without a hold. -/
theorem liveHeadroom_le (report : u.report = some r) (factor : u.g ≤ 4096) :
    (liveHeadroom p slot u).up ≤ r.maxDischarge ∧ (liveHeadroom p slot u).down ≤ r.maxCharge ∧
      (liveHeadroom p slot u).up * p.nat .dispatchEndurance ≤ (r.soc - energyFloor p r u.holds slot) * 60 ∧
      (liveHeadroom p slot u).down * p.nat .dispatchEndurance ≤ (energyCeiling p r - r.soc) * 60 := by
  cases has : hasHeadroom u slot with
  | false =>
    rw [(liveHeadroom_none has).1]
    simp
  | true =>
    rw [(liveHeadroom_some has report).1]
    obtain ⟨up, upEnergy⟩ := headroomSide_le (limit := r.maxDischarge)
      (energy := r.soc - energyFloor p r u.holds slot) (minutes := p.nat .dispatchEndurance) factor
    obtain ⟨down, downEnergy⟩ := headroomSide_le (limit := r.maxCharge) (energy := energyCeiling p r - r.soc)
      (minutes := p.nat .dispatchEndurance) factor
    exact ⟨up, down, upEnergy, downEnergy⟩

theorem plannable_iff (n : Nat) : plannable u n = true ↔ u.link = .live ∧ u.bars = ⟨false, false, false⟩ ∧
    u.mode ≠ .plain .off ∧ ¬∃ h ∈ u.holds, h.kind = .withdraw ∧ h.covers (some n) = true := by
  rw [← withdrawn_iff, ← BarReasons.empty_iff, Ne, ← UnitRecord.isOff_iff]
  simp [plannable, and_assoc]

theorem planFigures_none {n : Nat} (none_ : plannable u n = false) :
    planPower n u = ⟨0, 0⟩ ∧ planEnergy p n u = ⟨0, 0⟩ := by
  unfold planPower planEnergy
  rw [none_]
  exact ⟨rfl, rfl⟩

theorem planEnergy_some {n : Nat} (some_ : plannable u n = true) (report : u.report = some r) :
    planEnergy p n u = ⟨(energyTarget p r - energyFloor p r u.holds (some n)) * u.g / 4096,
      (energyCeiling p r - energyTarget p r) * u.g / 4096⟩ := by
  unfold planEnergy
  rw [some_, report]

theorem planPower_some {n : Nat} (some_ : plannable u n = true) (report : u.report = some r) :
    planPower n u = match u.mode.enrolled with
      | .manual d => ⟨min (r.maxDischarge * u.g / 4096 / 10 * 10) d.up,
          min (r.maxCharge * u.g / 4096 / 10 * 10) d.down⟩
      | _ => ⟨r.maxDischarge * u.g / 4096 / 10 * 10, r.maxCharge * u.g / 4096 / 10 * 10⟩ := by
  unfold planPower UnitRecord.declared
  rw [some_, report]
  cases u.mode.enrolled <;> rfl

end Unit

theorem Sides.sum_eq {α : Type} (l : List α) (g : α → Sides) :
    Sides.sum (l.map g) = ⟨(l.map fun e => (g e).up).sum, (l.map fun e => (g e).down).sum⟩ := by
  induction l with
  | nil => rfl
  | cons e l ih =>
    rw [List.map_cons, List.map_cons, List.map_cons, List.sum_cons, List.sum_cons]
    change Sides.add _ (Sides.sum (l.map g)) = _
    rw [ih]; rfl

/-- Settles O32: the figures by their own equations; the floor is the least of its three bounds. -/
theorem liveHeadroomIsSustainable : Obligations.LiveHeadroomIsSustainable := by
  refine ⟨fun p slot u => ⟨fun none_ => liveHeadroom_none (hasHeadroom_eq_false_iff.mpr none_),
    fun r report factor _ => ?_⟩, UnitRecord.eligible_iff_mode, Hold.covers_iff,
    fun p slot u r floor ceiling target report least top aim free => ⟨fun eligible => ?_,
      fun n now live bars on => ?_⟩, fun p n u none_ => ?_, fun p f r => ⟨fun blank => ?_, fun n stands => ?_⟩⟩
  · obtain ⟨up, down, upEnergy, downEnergy⟩ := liveHeadroom_le (p := p) (slot := slot) report factor
    obtain ⟨reported, technical, holds⟩ := (energyFloor_le_iff p r u.holds slot _).mp le_rfl
    obtain ⟨upTens, downTens⟩ := liveHeadroom_emod p slot u
    have above : ∀ {x}, x ≤ energyFloor p r u.holds slot →
        (liveHeadroom p slot u).up * p.nat .dispatchEndurance ≤ (r.soc - x) * 60 := fun below => by omega
    exact ⟨upTens, downTens, up, down, above reported, above technical,
      fun h mem e kind covers => above (holds h mem e kind covers), downEnergy⟩
  · have same : floor = energyFloor p r u.holds slot :=
      eq_of_forall_ge_iff fun x => (least x).trans (energyFloor_le_iff p r u.holds slot x).symm
    have some_ : hasHeadroom u slot = true := by
      rw [← Bool.not_eq_false, hasHeadroom_eq_false_iff]
      rintro (no | ⟨h, mem, kind, covers⟩)
      · rw [eligible] at no; cases no
      · rw [free h mem kind] at covers; cases covers
    subst same top
    exact liveHeadroom_some some_ report
  · subst now
    have same : floor = energyFloor p r u.holds (some n) :=
      eq_of_forall_ge_iff fun x => (least x).trans (energyFloor_le_iff p r u.holds (some n) x).symm
    have some_ : plannable u n = true := (plannable_iff n).mpr ⟨live, bars, on, by
      rintro ⟨h, mem, kind, covers⟩
      rw [free h mem kind] at covers; cases covers⟩
    subst same top aim
    refine ⟨planEnergy_some some_ report, fun m mode => ?_⟩
    have enrolled : u.mode.enrolled = m := by
      rcases mode with plain | ⟨t, test, prior⟩
      · rw [plain]; rfl
      · rw [test]; exact prior
    have power := planPower_some some_ report
    rw [enrolled] at power
    exact power
  · refine planFigures_none ?_
    rw [← Bool.not_eq_true, plannable_iff]
    rintro ⟨live, bars, on, held⟩
    rcases none_ with away | barred | off | withdrawn
    · exact away live
    · exact barred bars
    · exact on off
    · exact held withdrawn
  · unfold PlanRow.refresh; rw [blank]
  · unfold PlanRow.refresh Fleet.units
    rw [stands]
    simp only [List.map_map, Function.comp_def, Sides.sum_eq]

end Sys2Proof.Machine

/-! PROOFS. A round's completion: the availability evaluation, the delivered sum and the next round (R42, R43, R48,
R55, R56, R127, R128, R142). -/

namespace Sys2Proof.Machine

/-! ### The evaluation, its figures by name (R42, R43) -/

section Evaluation

variable (s : State)

/-- A record with its live headroom of the slot written (R43 step 1). -/
def withLive (p : Profile) (now : Option Nat) (u : UnitRecord) : UnitRecord :=
  { u with live := liveHeadroom p now u }

/-- The table after step 1. -/
def State.roundFleet : Fleet := s.fleet.map fun e => (e.1, withLive s.profile s.plan.currentSlot e.2)

/-- The availability record before its marked figures (R42). -/
def State.roundFigures : Availability where
  stamp := if s.clock.set then some (s.clock.slot, s.clock.second) else none
  eligible := ((Fleet.units s.fleet).filter fun u => hasHeadroom u s.plan.currentSlot).length
  power := Sides.sum (s.fleet.map fun e => (withLive s.profile s.plan.currentSlot e.2).live)
  energy := Sides.sum (s.fleet.map fun e => liveEnergy s.profile s.plan.currentSlot e.2)
  forceCount := s.book.forced.length
  forceCapacity := Sides.sum (s.book.forced.map Commitment.capacity)
  forceRequirement := Sides.sum (s.book.forced.map Commitment.requirement)
  liveMarked := 0
  liveMarkedCapacity := Sides.zero
  planningMarked := 0

/-- The rows after step 3 (R48). -/
def State.roundPlan : Plan :=
  if s.clock.set then s.plan.mapRows (PlanRow.refresh s.profile s.fleet) else s.plan

/-- The ids the LIVE check marks (R53). -/
def State.roundLive : List Nat :=
  liveCheck s.roundFigures s.book.records .up ++ liveCheck s.roundFigures s.book.records .down

/-- The ids the PLANNING check marks (R54). -/
def State.roundPlanning : List Nat :=
  planningMarks s.clock.set (s.profile.nat .margin) s.book.records s.roundPlan

/-- The records after step 4 (R55). -/
def State.roundRecords : List Commitment :=
  s.book.records.map (Commitment.remark s.roundLive s.roundPlanning)

/-- The availability record whole (R42). -/
def State.roundAvail : Availability :=
  { s.roundFigures with
    liveMarked := (s.roundRecords.filter fun c => c.mark == .live).length
    liveMarkedCapacity := Sides.sum ((s.roundRecords.filter fun c => c.mark == .live).map Commitment.capacity)
    planningMarked := (s.roundRecords.filter fun c => c.mark == .planning).length }

/-- The planning figures of a unit do not read its live headroom (R46). -/
theorem refresh_withLive (p : Profile) (now : Option Nat) (f : Fleet) :
    PlanRow.refresh p (f.map fun e => (e.1, withLive p now e.2)) = PlanRow.refresh p f := by
  funext r
  unfold PlanRow.refresh Fleet.units
  cases r.slot with
  | none => rfl
  | some n =>
    simp only [List.map_map]
    rfl

theorem State.writeHeadroom_eq : s.writeHeadroom = { s with fleet := s.roundFleet } := rfl

theorem State.formAvailability_eq : s.writeHeadroom.formAvailability =
    { s with fleet := s.roundFleet, avail := s.roundFigures } := by
  have eligible : ((Fleet.units s.roundFleet).filter fun u => hasHeadroom u s.plan.currentSlot).length =
      ((Fleet.units s.fleet).filter fun u => hasHeadroom u s.plan.currentSlot).length := by
    unfold Fleet.units State.roundFleet
    rw [List.map_map, List.filter_map, List.filter_map, List.length_map, List.length_map]
    rfl
  have power : (Fleet.units s.roundFleet).map UnitRecord.live =
      s.fleet.map fun e => (withLive s.profile s.plan.currentSlot e.2).live := by
    simp only [Fleet.units, State.roundFleet, List.map_map]; rfl
  have energy : (Fleet.units s.roundFleet).map (liveEnergy s.profile s.plan.currentSlot) =
      s.fleet.map fun e => liveEnergy s.profile s.plan.currentSlot e.2 := by
    simp only [Fleet.units, State.roundFleet, List.map_map]; rfl
  rw [State.writeHeadroom_eq]
  unfold State.formAvailability State.roundFigures
  dsimp only
  rw [eligible, power, energy]

theorem State.refreshPlan_eq : s.writeHeadroom.formAvailability.refreshPlan =
    { s with fleet := s.roundFleet, avail := s.roundFigures, plan := s.roundPlan } := by
  rw [State.formAvailability_eq]
  unfold State.refreshPlan State.roundPlan
  dsimp only
  rw [State.roundFleet, refresh_withLive]
  split <;> rfl

/-- The evaluation writes its figures and posts RISK on a change of the marked ids (R43, R56). -/
theorem State.evaluate_figures : s.evaluate = State.postIf { s with
      fleet := s.roundFleet, avail := s.roundAvail, plan := s.roundPlan
      book := { s.book with records := s.roundRecords }
      marked := (s.roundRecords.filter fun c => c.mark != .clear).map Commitment.id }
    (!sameIds s.marked ((s.roundRecords.filter fun c => c.mark != .clear).map Commitment.id)) .risk := by
  unfold State.evaluate
  dsimp only
  rw [State.refreshPlan_eq]
  rfl

end Evaluation

theorem sameIds_iff (a b : List Nat) : sameIds a b = true ↔ ∀ i, i ∈ b ↔ i ∈ a := by
  unfold sameIds
  rw [Bool.and_eq_true, List.all_eq_true, List.all_eq_true]
  simp only [List.contains_iff_mem]
  exact ⟨fun h i => ⟨h.2 i, h.1 i⟩, fun h => ⟨fun i => (h i).mpr, fun i => (h i).mp⟩⟩

/-! ### The next round (R126 to R128) -/

section NextRound

variable {s : State}

theorem State.startWalk_found {a : Nat} {u : UnitRecord} (next : s.nextVisit = some a)
    (found : Fleet.get s.fleet a = some u) : s.startWalk.link = { s.link with
      position := some a, phase := .sending, fbde := true
      visit := some ⟨a, setpointFrame a u s.episodeOpen, s.profile.nat .replyTimeout, false, []⟩ } := by
  unfold State.startWalk
  rw [next]
  exact State.beginVisit_link found

theorem State.startWalk_none (none_ : s.nextVisit = none) : s.startWalk.link =
    { s.link with phase := .pacing, visit := none, fbde := false } := by
  unfold State.startWalk
  rw [none_]; rfl

theorem visited_withLive (p : Profile) (now : Option Nat) (f : Fleet) (round : Nat) :
    visited (f.map fun e => (e.1, withLive p now e.2)) round = visited f round := by
  rw [visited_eq, visited_eq]
  funext b
  have get : Fleet.get (f.map fun e => (e.1, withLive p now e.2)) b = (Fleet.get f b).map (withLive p now) :=
    Fleet.get_mapUnits f _ b
  rw [get]
  cases Fleet.get f b <;> rfl

/-- The part at a round's completion, as the next round begins (R128, R142). -/
def State.roundBegun (s : State) : State := s.evaluate.updateDelivered.withRound ⟨s.time, 2000000⟩

theorem State.roundBegun_link (s : State) : s.roundBegun.link =
    { s.link with
      round := if s.link.round < 4294967295 then s.link.round + 1 else 0
      startIndex := if s.link.startIndex < 240 then s.link.startIndex + 1 else 1
      position := none, roundTimer := some ⟨s.time, 2000000⟩ } := by
  have round : (if maxWord ≤ s.link.round then 0 else s.link.round + 1) =
      if s.link.round < 4294967295 then s.link.round + 1 else 0 := by
    unfold maxWord; split_ifs <;> omega
  have start : advanceIndex s.link.startIndex =
      if s.link.startIndex < 240 then s.link.startIndex + 1 else 1 := by
    unfold advanceIndex; split_ifs <;> omega
  unfold State.roundBegun State.withRound
  dsimp only
  rw [State.taken_link, round, start]

/-- What the next round reads of the part: the table but for its live headrooms, the profile, the episode. -/
theorem State.roundBegun_reads (s : State) : s.roundBegun.fleet = s.roundFleet ∧
    s.roundBegun.profile = s.profile ∧ s.roundBegun.episodeOpen = s.episodeOpen := by
  unfold State.roundBegun State.withRound State.episodeOpen
  rw [State.updateDelivered_eq, State.evaluate_figures]
  simp only [State.postIf_fleet, State.postIf_profile, State.postIf_delivery, Option.isSome_map, and_self]

theorem State.roundBegun_nextVisit (s : State) : s.roundBegun.nextVisit =
    (walkOrder s.roundBegun.link.startIndex).find? (visited s.fleet s.roundBegun.link.round) := by
  obtain ⟨table, -, -⟩ := s.roundBegun_reads
  have ahead : s.roundBegun.link.ahead = walkOrder s.roundBegun.link.startIndex := by
    unfold Link.ahead
    have fresh : s.roundBegun.link.position = none := by rw [State.roundBegun_link]
    rw [fresh]
  unfold State.nextVisit
  rw [ahead, table, State.roundFleet, visited_withLive]

/-- The setpoint frame does not read the live headroom (R124). -/
theorem setpointFrame_withLive (p : Profile) (now : Option Nat) (a : Nat) (u : UnitRecord) (episode : Bool) :
    setpointFrame a (withLive p now u) episode = setpointFrame a u episode := rfl

theorem State.roundBegun_found {s : State} {a : Nat} {u : UnitRecord} (found : Fleet.get s.fleet a = some u) :
    Fleet.get s.roundBegun.fleet a = some (withLive s.profile s.plan.currentSlot u) := by
  obtain ⟨table, -, -⟩ := s.roundBegun_reads
  have get := Fleet.get_mapUnits s.fleet (withLive s.profile s.plan.currentSlot) a
  rw [found] at get
  rw [table]
  exact get

end NextRound

/-! ### The completion -/

/-- Both ends of a round complete it: the round timer in PACING, and the walk's end after it (R127). -/
theorem exec_completes {s : State} (running : s.running = true) {c : Instr}
    (ends : (c = .roundTimerExpiry ∧ s.link.roundTimer.isSome = true ∧ s.link.phase = .pacing) ∨
      (c = .quietEnd ∧ s.link.roundTimer = none ∧ (∃ wait bound, s.link.phase = .quiet wait bound) ∧
        s.link.ahead.find? (visited s.fleet s.link.round) = none)) :
    exec c s = .next s.completeRound := by
  rcases ends with ⟨rfl, armed, pacing⟩ | ⟨rfl, expired, ⟨wait, bound, quiet⟩, none_⟩
  · refine (whenRunning_running State.roundExpiry running).trans (congrArg _ ?_)
    obtain ⟨timer, armed⟩ := Option.isSome_iff_exists.mp armed
    unfold State.roundExpiry
    rw [armed]
    dsimp only
    split
    · exact s.completeRound_timer none
    · exact absurd pacing ‹_›
  · refine (whenRunning_running State.quietEnd running).trans (congrArg _ ?_)
    simp only [State.quietEnd, quiet, State.walk, State.nextVisit, none_, expired, Option.isNone_none, if_true]

/-- A round's completion, its parts by name. -/
theorem State.completeRound_parts (s : State) : s.completeRound = { s with
    link := s.roundBegun.startWalk.link, fleet := s.roundFleet, avail := s.roundAvail, plan := s.roundPlan
    book := { s.book with records := s.roundRecords }
    marked := (s.roundRecords.filter fun c => c.mark != .clear).map Commitment.id
    delivery := { s.delivery with
      episode := s.delivery.episode.map fun e => { e with delivered := Fleet.delivered s.roundFleet } }
    market := (s.postIf (!sameIds s.marked
      ((s.roundRecords.filter fun c => c.mark != .clear).map Commitment.id)) .risk).market
    operator := (s.postIf (!sameIds s.marked
      ((s.roundRecords.filter fun c => c.mark != .clear).map Commitment.id)) .risk).operator } := by
  have posts : ∀ (c : Bool) (f : Fleet) (a : Availability) (p : Plan) (b : Book) (m : List Nat),
      State.postIf { s with fleet := f, avail := a, plan := p, book := b, marked := m } c .risk =
        { s with
          fleet := f, avail := a, plan := p, book := b, marked := m
          market := (s.postIf c .risk).market, operator := (s.postIf c .risk).operator } := by
    intro c f a p b m
    cases c
    · rfl
    · simp only [State.postIf_true, State.post_ports]
  have link : (s.evaluate.updateDelivered.withRound (s.arm (msCounts 200))) = s.roundBegun := rfl
  rw [State.completeRound_eq, link, State.updateDelivered_eq, State.evaluate_figures, posts]

/-! ### The parts of a completion -/

section Parts

variable (s : State)

theorem hasHeadroom_eq_all (u : UnitRecord) (slot : Option Nat) : hasHeadroom u slot =
    (u.eligible && u.holds.all fun h => h.kind != .withdraw || !h.covers slot) := by
  rw [Bool.eq_iff_iff, ← Bool.not_eq_false, hasHeadroom_eq_false_iff, Bool.and_eq_true, List.all_eq_true]
  simp only [not_or, Bool.not_eq_false, not_exists, not_and, Bool.or_eq_true, bne_iff_ne, Bool.not_eq_true',
    Bool.not_eq_true, imp_iff_not_or]

/-- The availability record, its sums written out (R42). -/
theorem State.roundAvail_eq : s.roundAvail =
    { stamp := if s.clock.set then some (s.clock.slot, s.clock.second) else none
      eligible := (s.fleet.filter fun e => e.2.eligible &&
        e.2.holds.all fun h => h.kind != .withdraw || !h.covers s.plan.currentSlot).length
      power := ⟨(s.roundFleet.map fun e => e.2.live.up).sum, (s.roundFleet.map fun e => e.2.live.down).sum⟩
      energy := ⟨(s.fleet.map fun e => (liveEnergy s.profile s.plan.currentSlot e.2).up).sum,
        (s.fleet.map fun e => (liveEnergy s.profile s.plan.currentSlot e.2).down).sum⟩
      forceCount := s.book.forced.length
      forceCapacity := ⟨(s.book.forced.map fun c => c.capacity.up).sum,
        (s.book.forced.map fun c => c.capacity.down).sum⟩
      forceRequirement := ⟨(s.book.forced.map fun c => c.requirement.up).sum,
        (s.book.forced.map fun c => c.requirement.down).sum⟩
      liveMarked := (s.roundRecords.filter fun c => c.mark == .live).length
      liveMarkedCapacity :=
        ⟨((s.roundRecords.filter fun c => c.mark == .live).map fun c => c.capacity.up).sum,
          ((s.roundRecords.filter fun c => c.mark == .live).map fun c => c.capacity.down).sum⟩
      planningMarked := (s.roundRecords.filter fun c => c.mark == .planning).length } := by
  have eligible : ((Fleet.units s.fleet).filter fun u => hasHeadroom u s.plan.currentSlot).length =
      (s.fleet.filter fun e => e.2.eligible &&
        e.2.holds.all fun h => h.kind != .withdraw || !h.covers s.plan.currentSlot).length := by
    unfold Fleet.units
    rw [List.filter_map, List.length_map]
    exact congrArg (fun p => (s.fleet.filter p).length) (funext fun e => hasHeadroom_eq_all e.2 _)
  have up : (s.roundFleet.map fun e => e.2.live.up) =
      s.fleet.map fun e => (withLive s.profile s.plan.currentSlot e.2).live.up := by
    unfold State.roundFleet; rw [List.map_map]; rfl
  have down : (s.roundFleet.map fun e => e.2.live.down) =
      s.fleet.map fun e => (withLive s.profile s.plan.currentSlot e.2).live.down := by
    unfold State.roundFleet; rw [List.map_map]; rfl
  unfold State.roundAvail State.roundFigures
  dsimp only
  simp only [Sides.sum_eq, eligible, up, down]

theorem Commitment.remark_eq (live planning : List Nat) : Commitment.remark live planning = fun c =>
    { c with
      mark :=
        if c.isPending then if planning.contains c.id then .planning else .clear
        else if live.contains c.id then .live else .clear } := by
  funext c
  unfold Commitment.remark
  split <;> rfl

/-- RISK is silent while the same ids stay marked, and posted otherwise (R56). -/
theorem State.postIf_risk {marked : List Nat} :
    ((∀ i, i ∈ marked ↔ i ∈ s.marked) → s.postIf (!sameIds s.marked marked) .risk = s) ∧
      ((∃ i, ¬(i ∈ marked ↔ i ∈ s.marked)) → s.postIf (!sameIds s.marked marked) .risk = s.post .risk) := by
  refine ⟨fun same => ?_, fun differ => ?_⟩
  · rw [(sameIds_iff _ _).mpr same]; rfl
  · have other : sameIds s.marked marked = false := by
      rw [Bool.eq_false_iff, Ne, sameIds_iff]
      exact not_forall.mpr differ
    rw [other]; rfl

/-- The link as the next round's first visit begins (R128, R129). -/
theorem State.roundBegun_visits {a : Nat} {u : UnitRecord}
    (next : (walkOrder s.roundBegun.link.startIndex).find? (visited s.fleet s.roundBegun.link.round) = some a)
    (found : Fleet.get s.fleet a = some u) : s.roundBegun.startWalk.link = { s.roundBegun.link with
      position := some a, phase := .sending, fbde := true
      visit := some ⟨a, setpointFrame a u s.episodeOpen, s.profile.nat .replyTimeout, false, []⟩ } := by
  obtain ⟨-, profile, episode⟩ := s.roundBegun_reads
  rw [← State.roundBegun_nextVisit] at next
  rw [State.startWalk_found next (State.roundBegun_found found), setpointFrame_withLive, profile, episode]

end Parts

/-- Settles O34: both ends of a round complete it, and the parts of a completion are those named. -/
theorem roundCompletionEvaluates : Obligations.RoundCompletionEvaluates := by
  intro s running
  refine ⟨fun c ends => ?_, fun armed walking => ?_⟩
  · rw [← visited_eq] at ends
    obtain ⟨silent, posted⟩ := s.postIf_risk (marked :=
      (s.roundRecords.filter fun c => c.mark != .clear).map Commitment.id)
    have differs : ∀ x : Int, (x != 0) = decide (x ≠ 0) := fun x => by
      rw [Bool.eq_iff_iff, bne_iff_ne, decide_eq_true_iff]
    refine ⟨s.completeRound, s.plan.currentSlot, s.book.forced, s.roundLive, s.roundPlanning,
      if s.link.round < 4294967295 then s.link.round + 1 else 0,
      if s.link.startIndex < 240 then s.link.startIndex + 1 else 1,
      exec_completes running ends, ?_⟩
    rw [← visited_eq, State.completeRound_parts]
    refine ⟨rfl, rfl, rfl, rfl, s.roundAvail_eq, rfl, rfl, rfl, ?_, rfl, fun same => ?_, fun differ => ?_,
      fun e episode => ?_, fun none_ => ?_, fun u => ?_, rfl, rfl, fun a u next found => ?_, fun none_ => ?_⟩
    · exact congrArg (fun f => { s.book with records := s.book.records.map f })
        (Commitment.remark_eq s.roundLive s.roundPlanning)
    · have stands := silent same
      exact ⟨by rw [stands], by rw [stands]⟩
    · have noticed := posted differ
      exact ⟨by rw [noticed], by rw [noticed]⟩
    · have sum : Fleet.delivered s.roundFleet = (s.roundFleet.map fun x => x.2.contribution).sum := by
        unfold Fleet.delivered Fleet.units; rw [List.map_map]; rfl
      dsimp only
      rw [episode, sum]; rfl
    · dsimp only
      rw [none_, Option.map_none, ← none_]
    · unfold UnitRecord.contribution
      cases u.baseline <;> cases u.report <;> rfl
    · refine (s.roundBegun_visits ?_ found).trans ?_
      · rw [State.roundBegun_link]; exact next
      · rw [State.roundBegun_link]
        simp only [setpointFrame, differs, State.episodeOpen]
    · refine (State.startWalk_none ?_).trans ?_
      · rw [State.roundBegun_nextVisit, State.roundBegun_link]; exact none_
      · rw [State.roundBegun_link]
  · refine (whenRunning_running State.roundExpiry running).trans (congrArg _ ?_)
    obtain ⟨timer, armed⟩ := Option.isSome_iff_exists.mp armed
    unfold State.roundExpiry
    rw [armed]
    dsimp only
    split
    · exact absurd ‹_› walking
    · rfl

end Sys2Proof.Machine

/-! PROOFS. The parameter table and its reading, and the requests that stay in service (10.3, 11.2, 11.3). -/

namespace Sys2Proof.Machine

/-! ### Parameters read back (Table 11-2, R160) -/

theorem ParamId.ofCode_code (i : ParamId) : ParamId.ofCode i.code = some i := by cases i <;> rfl

theorem Profile.factory_get (i : ParamId) : Profile.factory.get i = i.default := by cases i <;> rfl

/-- The two ends of a described range, in their value fields (R160). -/
theorem describedRange_bytes (i : ParamId) :
    valueBytes (describedRange i.range).1 ++ valueBytes (describedRange i.range).2 =
      match i.range with
      | .numeric lo hi => beInt 4 lo ++ beInt 4 hi
      | .members mask => be 4 0 ++ be 4 mask
      | .mode => be 4 0 ++ be 4 3 := by cases i <;> rfl

theorem ParamId.be_code {id : Byte} {i : ParamId} (listed : ParamId.ofCode id.toNat = some i) :
    be 1 i.code = [id] := by
  rw [ParamId.code_of_ofCode listed]
  have whole := be_readBytes [id]
  simpa [readBytes] using whole

/-- Settles O57: Table 11-2 row by row, and the two reads answer from it. -/
theorem parametersAreReadBack : Obligations.ParametersAreReadBack := by
  refine ⟨⟨fun i => by cases i <;> rfl, fun code i => ⟨ParamId.code_of_ofCode, ?_⟩, Profile.factory_get,
    fun p => ⟨rfl, rfl, ?_, ?_⟩⟩, fun s port tag id serves => ?_, fun s port tag id serves =>
      ⟨fun unlisted => ?_, fun i listed => ?_⟩⟩
  · rintro rfl; exact i.ofCode_code
  · exact beq_iff_eq
  · exact beq_iff_eq
  · cases listed : ParamId.ofCode id.toNat with
    | none =>
      apply request_refused serves serves.idle
      simp only [answerParamRead, field_single, listed]
    | some i =>
      apply request_answered serves serves.idle
      simp only [answerParamRead, field_single, listed, ParamId.be_code listed, State.heard_enter_profile,
        valueBytes, List.singleton_append]
  · apply request_refused serves serves.idle
    simp only [answerParamDescribe, field_single, unlisted]
  · refine (request_answered serves serves.idle (reply := id :: ((valueBytes (describedRange i.range).1 ++
      valueBytes (describedRange i.range).2) ++ beInt 4 i.default ++ beInt 4 (s.profile.get i))) ?_).trans
      (congrArg (fun range => Host.Outcome.next (s.doneWith .paramDescribe port tag
        (id :: (range ++ beInt 4 i.default ++ beInt 4 (s.profile.get i))))) (describedRange_bytes i))
    simp only [answerParamDescribe, field_single, listed, ParamId.be_code listed, State.heard_enter_profile,
      valueBytes, List.cons_append, List.nil_append, List.append_assoc]

/-! ### Requests that stay in service (R157, R168, R169) -/

/-- An owner that holds its request: the part is as its work leaves it (R155 case 5). -/
theorem request_held {kind : RequestKind} {port : Port} {tag : Byte} {body : List Byte}
    {owner : State → State × Answer} {s t : State} (serves : Serves s kind port body)
    (holds : owner ((s.heard port).enter port kind tag) = (t, .held)) :
    request kind port tag body owner s = .next t := by
  rw [request_served serves, holds]

theorem ProfileSlot.ofCode_eq (n : Nat) : ProfileSlot.ofCode n =
    if n = 0 then some .factory else if n = 1 then some .one else if n = 2 then some .two else none := by
  match n with
  | 0 => rfl
  | 1 => rfl
  | 2 => rfl
  | k + 3 => rw [if_neg (by omega), if_neg (by omega), if_neg (by omega)]; rfl

theorem ProfileSlot.ofCode_none {n : Nat} (beyond : 2 < n) : ProfileSlot.ofCode n = none := by
  rw [ProfileSlot.ofCode_eq, if_neg (by omega), if_neg (by omega), if_neg (by omega)]

/-- A slot number in range names its slot (R169). -/
theorem ProfileSlot.ofCode_some {n : Byte} (within : n.toNat ≤ 2) : ProfileSlot.ofCode n.toNat =
    some (if n = 0 then .factory else if n = 1 then .one else .two) := by
  have zero : n = 0 ↔ n.toNat = 0 := BitVec.toNat_eq
  have one : n = 1 ↔ n.toNat = 1 := BitVec.toNat_eq
  rw [ProfileSlot.ofCode_eq]
  simp only [zero, one]
  split_ifs
  · rfl
  · rfl
  · rfl
  · omega

/-- A slot number that a save does not take (R168). -/
theorem answerProfileSave_badField {n : Byte} {s : State} (notOne : n ≠ 1) (notTwo : n ≠ 2) :
    answerProfileSave [n] s = (s, .refused .badField) := by
  have one : ¬n.toNat = 1 := fun h => notOne (BitVec.eq_of_toNat_eq h)
  have two : ¬n.toNat = 2 := fun h => notTwo (BitVec.eq_of_toNat_eq h)
  simp only [answerProfileSave, field_single, ProfileSlot.ofCode_eq, one, two, if_false]
  split_ifs <;> rfl

/-- A market request that is held leaves its work over the part that serves it. -/
theorem State.heard_enter_market (s : State) (kind : RequestKind) (tag : Byte) :
    (s.heard .market).enter .market kind tag = { s with
      market := { s.market with receiver := .hunting false, service := some ⟨kind, tag⟩ } } :=
  s.heard_enter_eq .market kind tag

/-- RESTART's DONE reply is formed while the request stays in service (R157). -/
theorem exec_restart {s : State} {tag : Byte} (serves : Serves s .restart .market []) :
    exec (.restart .market tag []) s =
      .next ((s.doneWith .restart .market tag []).setPort .market
        { (s.doneWith .restart .market tag []).market with service := some ⟨.restart, tag⟩ }) := by
  refine request_held serves (Prod.ext ?_ rfl)
  unfold answerRestart State.send State.doneWith State.replied PortState.transmit doneReply
  rw [State.heard_enter_market]
  simp only [State.port, State.setPort]
  cases s.market.sending <;> rfl

/-- Settles O58: a save or a selector write begins and is held, and so is RESTART after its reply. -/
theorem longRequestsStayInService : Obligations.LongRequestsStayInService := by
  refine ⟨fun s tag n serves => ?_, fun s tag serves => exec_restart serves⟩
  have startup : Serves s .profileStartup .market [n] := serves
  refine ⟨fun kind store => { s with
      store := store
      market := { s.market with service := some ⟨kind, tag⟩, receiver := .hunting false } },
    fun kind store => rfl, fun ⟨notOne, notTwo⟩ => ?_, ?_, ?_, fun beyond => ?_, fun within => ?_⟩
  · exact request_refused serves serves.idle (answerProfileSave_badField notOne notTwo)
  · rintro rfl
    exact request_held serves (by rw [State.heard_enter_market]; rfl)
  · rintro rfl
    exact request_held serves (by rw [State.heard_enter_market]; rfl)
  · apply request_refused startup startup.idle
    simp only [answerProfileStartup, field_single, ProfileSlot.ofCode_none beyond]
  · refine request_held startup ?_
    simp only [answerProfileStartup, field_single, ProfileSlot.ofCode_some within, State.heard_enter_market]

/-! ### The end of a store write (R168, R169) -/

theorem State.finishWrite_eq {s : State} {kind : RequestKind} {tag : Byte}
    (serving : s.market.service = some ⟨kind, tag⟩) : s.finishWrite = State.post { s with
      market := { s.market.transmit ⟨kind.code, tag, .done, .clear, []⟩ with service := none } } .store := by
  have transmits (x : PortState) (r : Reply) :
      { x with service := none }.transmit r = { x.transmit r with service := none } := by
    unfold PortState.transmit
    cases x.sending <;> rfl
  unfold State.finishWrite
  rw [serving]
  exact congrArg (fun x => State.post { s with market := x } .store) (transmits s.market _)

/-- Settles O59: each write's end makes its target valid and finishes the request. -/
theorem storeWritesEndValid : Obligations.StoreWritesEndValid := by
  intro s kind tag running serving
  have saves : exec .saveWriteComplete s = .next s.saveComplete :=
    whenRunning_running State.saveComplete running
  have selects : exec .startupWriteComplete s = .next s.startupComplete :=
    whenRunning_running State.startupComplete running
  refine ⟨fun store => State.post { s with
      store := store
      market := { s.market.transmit ⟨kind.code, tag, .done, .clear, []⟩ with service := none } } .store,
    fun store => rfl, fun p list writing => ?_, fun p list writing => ?_, fun slot writing => ?_⟩
  · have done : s.saveComplete =
        State.finishWrite { s with store := { s.store with slot1 := ⟨p, list, true⟩, write := none } } := by
      unfold State.saveComplete; rw [writing]; rfl
    rw [saves, done]
    exact congrArg _ (State.finishWrite_eq serving)
  · have done : s.saveComplete =
        State.finishWrite { s with store := { s.store with slot2 := ⟨p, list, true⟩, write := none } } := by
      unfold State.saveComplete; rw [writing]; rfl
    rw [saves, done]
    exact congrArg _ (State.finishWrite_eq serving)
  · have done : s.startupComplete =
        State.finishWrite { s with store := { s.store with selector := ⟨slot, true⟩, write := none } } := by
      unfold State.startupComplete; rw [writing]
    rw [selects, done]
    exact congrArg _ (State.finishWrite_eq serving)

end Sys2Proof.Machine

/-! PROOFS. PROFILE-LOAD (R170): several notices posted at once, the part it leaves, its refusals. -/

namespace Sys2Proof.Machine

/-! ### Several kinds posted to one port (R161, R164, R165) -/

section PostEach

variable {x : PortState} {pulse : Bool} {enables : NoticeSet} {ks : List Notice}

/-- The kinds posted to a port one after another. -/
def PortState.postEach (x : PortState) (pulse : Bool) (enables : NoticeSet) (ks : List Notice) : PortState :=
  ks.foldl (fun y k => y.post pulse enables k) x

theorem PortState.postEach_cons (k : Notice) :
    x.postEach pulse enables (k :: ks) = (x.post pulse enables k).postEach pulse enables ks := rfl

/-- A kind is newly pending, and enabled: its posting gives a pulse in PULSE mode (R165). -/
def PortState.pulses (x : PortState) (enables : NoticeSet) (k : Notice) : Bool :=
  !hasNotice x.notices k && hasNotice enables k

/-- A posting makes its own kind pending and no other. -/
theorem PortState.post_notices (x : PortState) (pulse : Bool) (enables : NoticeSet) (k j : Notice) :
    hasNotice (x.post pulse enables k).notices j = (hasNotice x.notices j || j == k) := by
  cases new : hasNotice x.notices k with
  | true =>
    rw [PortState.post_pending new]
    by_cases same : j = k
    · rw [same, new, Bool.true_or]
    · rw [beq_eq_false_iff_ne.mpr same, Bool.or_false]
  | false =>
    cases pulse with
    | false => rw [PortState.post_level new]; exact hasNotice_or_mask _ k j
    | true =>
      cases enabled : hasNotice enables k with
      | false => rw [PortState.post_masked new enabled]; exact hasNotice_or_mask _ k j
      | true =>
        rw [PortState.post_pulse new enabled]
        split <;> exact hasNotice_or_mask _ k j

/-- A posting in PULSE mode: one more pulse is owed, or begins at rest, where the kind gives one (R165). -/
theorem PortState.post_pulses (x : PortState) (enables : NoticeSet) (k : Notice) :
    (x.post true enables k).gap = x.gap ∧
      (x.pulses enables k = false →
        (x.post true enables k).line = x.line ∧ (x.post true enables k).owed = x.owed) ∧
      (x.pulses enables k = true → x.line = true ∨ x.gap = true →
        (x.post true enables k).line = x.line ∧ (x.post true enables k).owed = min 15 (x.owed + 1)) ∧
      (x.pulses enables k = true → x.line = false → x.gap = false →
        (x.post true enables k).line = true ∧ (x.post true enables k).owed = x.owed) := by
  unfold PortState.pulses
  cases new : hasNotice x.notices k with
  | true =>
    rw [PortState.post_pending new]
    exact ⟨rfl, fun _ => ⟨rfl, rfl⟩, nofun, nofun⟩
  | false =>
    cases enabled : hasNotice enables k with
    | false =>
      rw [PortState.post_masked new enabled]
      exact ⟨rfl, fun _ => ⟨rfl, rfl⟩, nofun, nofun⟩
    | true =>
      rw [PortState.post_pulse new enabled]
      refine ⟨by split <;> rfl, nofun, fun _ busy => ?_, fun _ line gap => ?_⟩
      · rw [if_pos busy]; exact ⟨rfl, rfl⟩
      · rw [if_neg (by simp [line, gap])]; exact ⟨rfl, rfl⟩

theorem PortState.postEach_notices (x : PortState) (pulse : Bool) (enables : NoticeSet) (ks : List Notice)
    (j : Notice) :
    hasNotice (x.postEach pulse enables ks).notices j = (hasNotice x.notices j || ks.contains j) := by
  induction ks generalizing x with
  | nil => exact (Bool.or_false _).symm
  | cons k ks ih =>
    rw [PortState.postEach_cons, ih, PortState.post_notices, List.contains_cons, Bool.or_assoc]

/-- A line judged in LEVEL mode stays judged over postings (R164). -/
theorem PortState.postEach_level (judged : x.line = (x.notices &&& enables != 0) ∧ x.gap = false ∧ x.owed = 0) :
    (x.postEach false enables ks).line = ((x.postEach false enables ks).notices &&& enables != 0) ∧
      (x.postEach false enables ks).gap = false ∧ (x.postEach false enables ks).owed = 0 := by
  induction ks generalizing x with
  | nil => exact judged
  | cons k ks ih =>
    have ⟨_, gap, owed⟩ := judged
    rw [PortState.postEach_cons]
    refine ih (x := x.post false enables k) ?_
    cases new : hasNotice x.notices k with
    | true =>
      rw [PortState.post_pending new]; exact judged
    | false => rw [PortState.post_level new]; exact ⟨rfl, gap, owed⟩

/-- Distinct kinds posted in PULSE mode: each that gives a pulse adds one (R165). -/
theorem PortState.postEach_pulse (distinct : ks.Nodup) (few : x.owed ≤ 15) :
    (x.postEach true enables ks).gap = x.gap ∧
      (x.line = true ∨ x.gap = true → (x.postEach true enables ks).line = x.line ∧
        (x.postEach true enables ks).owed = min 15 (x.owed + ks.countP (x.pulses enables))) ∧
      (x.line = false → x.gap = false →
        (x.postEach true enables ks).line = decide (0 < ks.countP (x.pulses enables)) ∧
        (x.postEach true enables ks).owed = min 15 (x.owed + (ks.countP (x.pulses enables) - 1))) := by
  induction ks generalizing x with
  | nil =>
    refine ⟨rfl, fun _ => ⟨rfl, ?_⟩, fun line _ => ⟨line, ?_⟩⟩
    · exact (Nat.min_eq_right few).symm
    · exact (Nat.min_eq_right few).symm
  | cons k ks ih =>
    obtain ⟨absent, distinct⟩ := List.nodup_cons.mp distinct
    obtain ⟨gap, silent, owes, begins⟩ := x.post_pulses enables k
    have rest : ks.countP ((x.post true enables k).pulses enables) = ks.countP (x.pulses enables) := by
      refine List.countP_congr fun j mem => ?_
      have other : (j == k) = false := beq_eq_false_iff_ne.mpr fun same => absent (same ▸ mem)
      unfold PortState.pulses
      rw [PortState.post_notices, other, Bool.or_false]
    have few' : (x.post true enables k).owed ≤ 15 := by
      cases new : x.pulses enables k with
      | false => rw [(silent new).2]; exact few
      | true =>
        by_cases busy : x.line = true ∨ x.gap = true
        · rw [(owes new busy).2]; exact Nat.min_le_left ..
        · rw [not_or, Bool.not_eq_true, Bool.not_eq_true] at busy
          rw [(begins new busy.1 busy.2).2]; exact few
    obtain ⟨gap', busy', idle'⟩ := ih distinct few'
    rw [rest] at busy' idle'
    rw [PortState.postEach_cons, List.countP_cons]
    refine ⟨gap'.trans gap, fun busy => ?_, fun line low => ?_⟩
    · cases new : x.pulses enables k with
      | false =>
        obtain ⟨line, owed⟩ := silent new
        rw [line, gap, owed] at busy'
        exact busy' busy
      | true =>
        obtain ⟨line, owed⟩ := owes new busy
        rw [line, gap, owed] at busy'
        obtain ⟨sameLine, sum⟩ := busy' busy
        refine ⟨sameLine, ?_⟩
        rw [sum, if_pos rfl]; omega
    · cases new : x.pulses enables k with
      | false =>
        obtain ⟨sameLine, owed⟩ := silent new
        rw [sameLine, gap, owed] at idle'
        exact idle' line low
      | true =>
        obtain ⟨high, owed⟩ := begins new line low
        rw [high, gap, owed] at busy'
        obtain ⟨sameLine, sum⟩ := busy' (.inl rfl)
        rw [sameLine, sum, if_pos rfl, Nat.add_sub_cancel]
        exact ⟨(decide_eq_true (Nat.succ_pos _)).symm, rfl⟩

end PostEach

/-! ### What a port keeps over its judgements and postings -/

/-- A port moved in its pending set and its attention line alone. -/
def PortState.Attends (x y : PortState) : Prop :=
  y = { x with notices := y.notices, line := y.line, gap := y.gap, owed := y.owed }

theorem PortState.Attends.trans {x y z : PortState} (first : x.Attends y) (second : y.Attends z) : x.Attends z := by
  unfold PortState.Attends at *
  rw [second, first]

theorem PortState.attends_rejudge (x : PortState) (old new : Bool) (enables : NoticeSet) :
    x.Attends (x.rejudge old new enables) := by
  cases new
  · rfl
  · cases old <;> rfl

theorem PortState.attends_postEach (x : PortState) (pulse : Bool) (enables : NoticeSet) (ks : List Notice) :
    x.Attends (x.postEach pulse enables ks) := by
  induction ks generalizing x with
  | nil => rfl
  | cons k ks ih =>
    refine PortState.Attends.trans ?_ (ih (x.post pulse enables k))
    obtain ⟨y, posted, frame⟩ := x.post_eq pulse enables k
    rw [posted, PortState.Attends, frame]

/-! ### The part a load leaves (R170, R38, R134) -/

section Load

variable {s : State} {x : StoredProfile}

/-- The kinds a load posts to the Market Port, in order. -/
def loadNotices (testing : Bool) : List Notice := (if testing then [.test] else []) ++ [.unit, .store]

theorem loadNotices_nodup (testing : Bool) : (loadNotices testing).Nodup := by cases testing <;> decide

theorem loadNotices_contains (testing : Bool) (k : Notice) :
    (loadNotices testing).contains k = (k == .unit || k == .store || (k == .test && testing)) := by
  cases testing <;> cases k <;> rfl

/-- The Market Port after a load: judged over the new profile, then the postings. -/
def State.loadMarket (s : State) (x : StoredProfile) : PortState :=
  (s.market.rejudge (s.profile.pulseMode .market) (x.profile.pulseMode .market)
    (x.profile.enables .market)).postEach (x.profile.pulseMode .market) (x.profile.enables .market)
    (loadNotices (s.fleet.any fun e => e.2.inTest))

/-- The Operator Port after a load: judged over the new profile; it carries none of the kinds posted. -/
def State.loadOperator (s : State) (x : StoredProfile) : PortState :=
  s.operator.rejudge (s.profile.pulseMode .operator) (x.profile.pulseMode .operator)
    (x.profile.enables .operator)

theorem State.load_eq (s : State) (x : StoredProfile) : s.load x = { s with
    profile := x.profile, fleet := Fleet.ofEnrolment x.enrolment, link := s.link.markRemoved fun _ => true
    market := s.loadMarket x, operator := s.loadOperator x } := by
  have posts (t : State) (k : Notice) (carried : hasNotice (carriedNotices .operator) k = false) :
      t.post k = { t with
        market := t.market.post (t.profile.pulseMode .market) (t.profile.enables .market) k } := by
    rw [State.post_ports, if_neg (by simp [carried])]
  unfold State.load State.loadMarket State.loadOperator
  rw [Fleet.underTest_eq_any, posts _ .store rfl, posts _ .unit rfl]
  cases s.fleet.any fun e => e.2.inTest with
  | false => rfl
  | true => rw [State.postIf_true, posts _ .test rfl]; rfl

/-- A load takes no notice of the request in service. -/
theorem State.load_heard_enter (s : State) (kind : RequestKind) (tag : Byte) (x : StoredProfile) :
    ((s.heard .market).enter .market kind tag).load x = ((s.load x).heard .market).enter .market kind tag := by
  have profile := s.putProfile_heard_enter .market kind tag x.profile
  have table (t : State) (f : Fleet) (l : Link) :
      { (t.heard .market).enter .market kind tag with fleet := f, link := l } =
        (({ t with fleet := f, link := l } : State).heard .market).enter .market kind tag := rfl
  have link (t : State) : ((t.heard .market).enter .market kind tag).link = t.link := rfl
  have fleet : ((s.heard .market).enter .market kind tag).fleet = s.fleet := rfl
  unfold State.load
  dsimp only
  rw [profile, link, fleet, table, State.postIf_heard_enter, State.post_heard_enter, State.post_heard_enter]

theorem PortState.rejudge_notices (y : PortState) (old new : Bool) (enables : NoticeSet) :
    (y.rejudge old new enables).notices = y.notices := by
  obtain ⟨z, judged, frame⟩ := y.rejudge_eq old new enables
  rw [judged, frame]

theorem State.loadMarket_notices (s : State) (x : StoredProfile) (k : Notice) :
    hasNotice (s.loadMarket x).notices k = (hasNotice s.market.notices k || k == .unit || k == .store
      || (k == .test && s.fleet.any fun e => e.2.inTest)) := by
  unfold State.loadMarket
  rw [PortState.postEach_notices, PortState.rejudge_notices, loadNotices_contains, ← Bool.or_assoc,
    ← Bool.or_assoc]

theorem State.attends_loadMarket (s : State) (x : StoredProfile) : s.market.Attends (s.loadMarket x) :=
  (PortState.attends_rejudge ..).trans (PortState.attends_postEach ..)

theorem State.attends_loadOperator (s : State) (x : StoredProfile) : s.operator.Attends (s.loadOperator x) :=
  PortState.attends_rejudge ..

/-- The line of a port in LEVEL mode is judged over the profile loaded (R164). -/
theorem State.loadMarket_level (level : x.profile.pulseMode .market = false) :
    (s.loadMarket x).line = ((s.loadMarket x).notices &&& x.profile.enables .market != 0) ∧
      (s.loadMarket x).gap = false ∧ (s.loadMarket x).owed = 0 := by
  unfold State.loadMarket
  rw [level, PortState.rejudge_level]
  exact PortState.postEach_level ⟨rfl, rfl, rfl⟩

/-- The Market Port's attention line as a load begins its postings into PULSE mode (R165). -/
theorem State.loadMarket_judged (s : State) (pulse : Bool) (enables : NoticeSet) :
    s.market.rejudge pulse true enables = { s.market with
      line := pulse && s.market.line, gap := pulse && s.market.gap
      owed := if pulse then s.market.owed else 0 } := by
  cases pulse <;> rfl

/-- The kinds that a load's postings give a pulse for, in the order R170 names them. -/
theorem loadNotices_countP (s : State) (x : StoredProfile) :
    (loadNotices (s.fleet.any fun e => e.2.inTest)).countP
        (s.market.pulses (x.profile.enables .market)) =
      ([Notice.unit, .store, .test].filter fun k => hasNotice (s.loadMarket x).notices k &&
        !hasNotice s.market.notices k && hasNotice (x.profile.enables .market) k).length := by
  have named (k : Notice) : (hasNotice (s.loadMarket x).notices k && !hasNotice s.market.notices k &&
      hasNotice (x.profile.enables .market) k) =
        ((loadNotices (s.fleet.any fun e => e.2.inTest)).contains k &&
          s.market.pulses (x.profile.enables .market) k) := by
    rw [State.loadMarket_notices, loadNotices_contains]
    unfold PortState.pulses
    cases hasNotice s.market.notices k <;> simp
  rw [← List.countP_eq_length_filter]
  simp only [named]
  cases s.fleet.any fun e => e.2.inTest with
  | false =>
    have posts : loadNotices false = [.unit, .store] := rfl
    simp [posts, List.countP_cons]
  | true =>
    have posts : loadNotices true = [.test, .unit, .store] := rfl
    simp only [posts, List.countP_cons, List.countP_nil]
    simp
    omega

/-- The Market Port's line and count after a load into PULSE mode (R165). -/
theorem State.loadMarket_pulse (sound : PortsSound s) (pulse : x.profile.pulseMode .market = true)
    {line gap : Bool} {owed n : Nat} (hline : line = (s.profile.pulseMode .market && s.market.line))
    (hgap : gap = (s.profile.pulseMode .market && s.market.gap))
    (howed : owed = if s.profile.pulseMode .market then s.market.owed else 0)
    (count : (loadNotices (s.fleet.any fun e => e.2.inTest)).countP
      (s.market.pulses (x.profile.enables .market)) = n) :
    (s.loadMarket x).gap = gap ∧
      (line = true ∨ gap = true →
        (s.loadMarket x).line = line ∧ (s.loadMarket x).owed = min 15 (owed + n)) ∧
      (line = false → gap = false →
        (s.loadMarket x).line = decide (0 < n) ∧ (s.loadMarket x).owed = n - 1) := by
  obtain ⟨ports, -⟩ := sound
  obtain ⟨-, -, pulsing, -⟩ := ports .market
  have few : owed ≤ 15 := by
    rw [howed]
    split
    · exact (pulsing ‹_›).1
    · omega
  have rest (low : line = false) (done : gap = false) : owed = 0 := by
    rw [howed]
    split
    · obtain ⟨-, -, busy⟩ := pulsing ‹_›
      rw [‹s.profile.pulseMode .market = true›, Bool.true_and] at hline hgap
      have quiet : (s.market.line || s.market.gap) = false := by rw [← hline, ← hgap, low, done]; rfl
      by_contra owes
      exact absurd (busy (Nat.pos_of_ne_zero owes)) (by rw [State.port, quiet]; exact Bool.false_ne_true)
    · rfl
  have most : n ≤ 3 := by
    rw [← count]
    refine List.countP_le_length.trans ?_
    cases s.fleet.any fun e => e.2.inTest <;> decide
  have each := PortState.postEach_pulse (x := { s.market with line := line, gap := gap, owed := owed })
    (enables := x.profile.enables .market) (loadNotices_nodup (s.fleet.any fun e => e.2.inTest)) few
  have same : ({ s.market with line := line, gap := gap, owed := owed } : PortState).pulses
      (x.profile.enables .market) = s.market.pulses (x.profile.enables .market) := rfl
  obtain ⟨gap', busy, idle⟩ := each
  rw [same, count] at busy idle
  unfold State.loadMarket
  rw [pulse, State.loadMarket_judged, ← hline, ← hgap, ← howed]
  refine ⟨gap', busy, fun low done => ?_⟩
  obtain ⟨first, sum⟩ := idle low done
  refine ⟨first, sum.trans ?_⟩
  have none_ := rest low done
  dsimp only
  omega

end Load

/-! ### The request (R170) -/

/-- The slot numbers and what they name. -/
theorem loads_slot {s : State} {n : Byte} {x : StoredProfile}
    (names : (n = 0 ∧ x = ⟨.factory, [], true⟩) ∨ (n = 1 ∧ x = s.store.slot1 ∧ x.valid = true) ∨
      (n = 2 ∧ x = s.store.slot2 ∧ x.valid = true)) :
    ∃ slot, ProfileSlot.ofCode n.toNat = some slot ∧ s.store.slot slot = x ∧ x.valid = true := by
  rcases names with ⟨rfl, rfl⟩ | ⟨rfl, rfl, valid⟩ | ⟨rfl, rfl, valid⟩
  · exact ⟨.factory, rfl, rfl, rfl⟩
  · exact ⟨.one, rfl, rfl, valid⟩
  · exact ⟨.two, rfl, rfl, valid⟩

theorem any_forced_iff (l : List Commitment) :
    (l.any fun c => !c.isPending) = true ↔ ∃ c ∈ l, c.isPending = false := by
  simp only [List.any_eq_true, Bool.not_eq_true']

theorem any_forced_eq_false {l : List Commitment} (all : ∀ c ∈ l, c.isPending = true) :
    (l.any fun c => !c.isPending) = false := by
  rw [List.any_eq_false]
  intro c mem
  rw [all c mem]; exact Bool.false_ne_true

section Answers

variable {s : State} {n : Byte} {slot : ProfileSlot}

theorem answerProfileLoad_badField (beyond : 2 < n.toNat) :
    answerProfileLoad [n] s = (s, .refused .badField) := by
  simp only [answerProfileLoad, field_single, ProfileSlot.ofCode_none beyond]

theorem answerProfileLoad_wrongState (named : ProfileSlot.ofCode n.toNat = some slot)
    (forced : (s.book.records.any fun c => !c.isPending) = true) :
    answerProfileLoad [n] s = (s, .refused .wrongState) := by
  simp only [answerProfileLoad, field_single, named, forced, if_true]

theorem answerProfileLoad_storeInvalid (named : ProfileSlot.ofCode n.toNat = some slot)
    (free : (s.book.records.any fun c => !c.isPending) = false) (invalid : (s.store.slot slot).valid = false) :
    answerProfileLoad [n] s = (s, .refused .storeInvalid) := by
  simp only [answerProfileLoad, field_single, named, free, invalid, Bool.not_false, if_true, Bool.false_eq_true,
    if_false]

theorem answerProfileLoad_loads (named : ProfileSlot.ofCode n.toNat = some slot)
    (free : (s.book.records.any fun c => !c.isPending) = false) (valid : (s.store.slot slot).valid = true) :
    answerProfileLoad [n] s = (s.load (s.store.slot slot), .done []) := by
  simp only [answerProfileLoad, field_single, named, free, valid, Bool.not_true, Bool.false_eq_true, if_false]

end Answers

/-- Settles O60: the refusals in order, and the parts of a load. -/
theorem profileLoadRebuildsTheTable : Obligations.ProfileLoadRebuildsTheTable := by
  intro s tag n serves
  refine ⟨fun beyond => ?_, fun within forced => ?_, fun free invalid => ?_, fun x free names => ?_⟩
  · exact request_refused serves serves.idle (answerProfileLoad_badField beyond)
  · exact request_refused serves serves.idle
      (answerProfileLoad_wrongState (ProfileSlot.ofCode_some within) ((any_forced_iff _).mpr forced))
  · have free' := any_forced_eq_false free
    rcases invalid with ⟨rfl, invalid⟩ | ⟨rfl, invalid⟩
    · exact request_refused serves serves.idle
        (answerProfileLoad_storeInvalid (slot := .one) rfl free' invalid)
    · exact request_refused serves serves.idle
        (answerProfileLoad_storeInvalid (slot := .two) rfl free' invalid)
  · obtain ⟨slot, named, holds, valid⟩ := loads_slot names
    have service : ((s.load x).port .market).service = none := by
      rw [State.load_eq]
      exact (congrArg PortState.service (s.attends_loadMarket x)).trans serves.idle
    have answered : exec (.profileLoad .market tag [n]) s =
        .next ((s.load x).doneWith .profileLoad .market tag []) := by
      refine request_answered serves service ?_
      rw [← holds] at valid ⊢
      rw [← State.load_heard_enter]
      exact answerProfileLoad_loads (s := (s.heard .market).enter .market .profileLoad tag) named
        (any_forced_eq_false free) valid
    refine ⟨s.load x, [Notice.unit, .store, .test].filter (fun k => hasNotice (s.load x).market.notices k &&
      !hasNotice s.market.notices k && hasNotice (x.profile.enables .market) k), answered, ?_⟩
    rw [State.load_eq]
    have visiting := LinkPhase.visiting_eq s.link.phase
    refine ⟨rfl, rfl, ?_, fun v visit => ?_, fun none_ => ?_, ?_, ?_, fun testing => ?_, s.loadMarket_notices x, ?_,
      fun port => ?_, fun pulse => ⟨fun before => ?_, fun before => ?_⟩, rfl, fun sound pulse =>
        ⟨_, _, _, rfl, rfl, rfl, State.loadMarket_pulse sound pulse rfl rfl rfl (loadNotices_countP s x)⟩⟩
    · dsimp only
      rw [Link.markRemoved_eq]
    · dsimp only
      rw [Link.markRemoved_eq, visit, visiting]; rfl
    · dsimp only
      rw [Link.markRemoved_eq, none_]; rfl
    · exact (s.loadMarket_notices x .unit).trans (by simp)
    · exact (s.loadMarket_notices x .store).trans (by simp)
    · refine (s.loadMarket_notices x .test).trans ?_
      rw [List.any_eq_true.mpr testing]; simp
    · exact PortState.rejudge_notices ..
    · cases port with
      | market => exact ⟨_, rfl, s.attends_loadMarket x, State.loadMarket_level⟩
      | operator =>
        refine ⟨_, rfl, s.attends_loadOperator x, fun level => ?_⟩
        have judged : s.loadOperator x = _ := congrArg (s.operator.rejudge _ · _) level
        dsimp only [State.port]
        rw [judged, PortState.rejudge_level]
        exact ⟨rfl, rfl, rfl⟩
    · dsimp only
      unfold State.loadOperator
      rw [pulse, before, PortState.rejudge_pulse]
    · dsimp only
      unfold State.loadOperator
      rw [pulse, before, PortState.rejudge_into_pulse]
      exact ⟨rfl, rfl, rfl⟩

end Sys2Proof.Machine

/-! PROOFS. The reads that answer what is held (R26, R57, R58, R151). -/

namespace Sys2Proof.Machine

/-- An owner that reads: nothing of the part changes but the port's reply. -/
theorem request_read {kind : RequestKind} {port : Port} {tag : Byte} {body reply : List Byte}
    {owner : State → State × Answer} {s : State} (serves : Serves s kind port body)
    (reads : owner ((s.heard port).enter port kind tag) =
      ((s.heard port).enter port kind tag, .done reply)) :
    request kind port tag body owner s = .next (s.doneWith kind port tag reply) :=
  request_answered serves serves.idle reads

/-! ### The rows of PLAN-READ (R58) -/

section Rows

variable {plan : Plan} {slot n : Nat}

/-- A slot has a row within the horizon, up to the last slot (R45). -/
theorem PlanPlaced.rowFor_isSome (placed : PlanPlaced plan slot) :
    (plan.rowFor n).isSome = true ↔ slot ≤ n ∧ n ≤ slot + 192 ∧ n ≤ maxWord := by
  have listed : some n ∈ plan.all.map PlanRow.slot ↔ slot ≤ n ∧ n ≤ slot + 192 ∧ n ≤ maxWord := by
    rw [placed.slots_eq, List.mem_map_of_injective (Option.some_injective _), List.mem_filter,
      List.mem_range'_1, decide_eq_true_iff]
    omega
  rw [← listed, List.mem_map, Option.isSome_iff_exists]
  refine ⟨fun ⟨row, found⟩ => ⟨row, Plan.mem_of_rowFor found⟩, fun ⟨row, mem, stands⟩ => ⟨row, ?_⟩⟩
  exact Plan.rowFor_eq placed.slots_nodup mem stands

theorem PlanPlaced.rowFor_slot (placed : PlanPlaced plan slot) (low : slot ≤ n) :
    (plan.rowFor n).map PlanRow.slot =
      if decide (n ≤ slot + 192 ∧ n ≤ maxWord) = true then some (some n) else none := by
  have has := placed.rowFor_isSome (n := n)
  cases found : plan.rowFor n with
  | none =>
    rw [found] at has
    rw [if_neg (by rw [decide_eq_true_iff]; exact fun inside => Bool.false_ne_true (has.mpr ⟨low, inside⟩))]
    rfl
  | some row =>
    rw [found] at has
    have inside := (has.mp rfl).2
    rw [if_pos (decide_eq_true inside), Option.map_some, (Plan.mem_of_rowFor found).2]

/-- The rows read are those of the slots asked that exist (R58). -/
theorem PlanPlaced.rows_read (placed : PlanPlaced plan slot) {first : Nat} (low : slot ≤ first) (count : Nat) :
    ((List.range' first count).filterMap plan.rowFor).map PlanRow.slot =
      ((List.range' first count).filter fun n => decide (n ≤ slot + 192 ∧ n ≤ maxWord)).map some := by
  rw [List.map_filterMap, map_filter_eq_filterMap]
  refine List.filterMap_congr fun n mem => ?_
  exact placed.rowFor_slot (low.trans (List.mem_range'_1.mp mem).1)

end Rows

section PlanRead

variable {s : State} {body : List Byte}

theorem answerPlanRead_noTime (unset : s.clock.set = false) :
    answerPlanRead body s = (s, .refused .noTime) := by
  unfold answerPlanRead
  simp only [unset, Bool.not_false, if_true]

theorem answerPlanRead_badField (set : s.clock.set = true) (outside : field body 4 1 < 1 ∨ 4 < field body 4 1 ∨
      field body 0 4 < s.clock.slot ∨ s.clock.slot + 192 < field body 0 4) :
    answerPlanRead body s = (s, .refused .badField) := by
  unfold answerPlanRead
  simp only [set, Bool.not_true, Bool.false_eq_true, if_false]
  by_cases count : field body 4 1 < 1 ∨ 4 < field body 4 1
  · rw [if_pos count]
  · rw [if_neg count, if_pos (by tauto)]

theorem answerPlanRead_rows (set : s.clock.set = true) (least : 1 ≤ field body 4 1) (most : field body 4 1 ≤ 4)
    (low : s.clock.slot ≤ field body 0 4) (high : field body 0 4 ≤ s.clock.slot + 192) :
    answerPlanRead body s = (s, .done (be 2 (s.profile.nat .margin)
      ++ be 1 ((List.range' (field body 0 4) (field body 4 1)).filterMap s.plan.rowFor).length
      ++ ((List.range' (field body 0 4) (field body 4 1)).filterMap s.plan.rowFor).flatMap
        (PlanRow.bytes (s.profile.nat .margin)))) := by
  unfold answerPlanRead
  simp only [set, Bool.not_true, Bool.false_eq_true, if_false]
  rw [if_neg (by omega), if_neg (by omega)]

end PlanRead

@[simp] theorem State.heard_enter_plan (s : State) (port : Port) (kind : RequestKind) (tag : Byte) :
    ((s.heard port).enter port kind tag).plan = s.plan := by
  rw [State.heard_enter_eq, State.setPort_plan]

/-- The found and not-found bytes of a read (R26, R151). -/
theorem be_found : be 1 0 = [0#8] ∧ be 1 1 = [1#8] := ⟨rfl, rfl⟩

/-- Settles O18: each read answers its owner's record, and PLAN-READ the rows that exist. -/
theorem readsAnswerTheRecords : Obligations.ReadsAnswerTheRecords := by
  refine ⟨⟨fun s port tag serves => ?_, fun s port tag serves => ?_, fun s port tag a serves => ?_⟩,
    fun s tag body serves => ⟨fun unset => ?_, fun set outside => ?_, fun set sound least most low high => ?_⟩⟩
  · refine request_read serves ?_
    rw [State.heard_enter_eq]
    cases port <;> rfl
  · cases running : s.delivery.episode with
    | none =>
      refine request_read serves ?_
      simp only [answerDeliveryRead, State.heard_enter_delivery, running, be_found.2]
    | some e =>
      refine request_read serves ?_
      have count : Fleet.baselines s.fleet = (s.fleet.filter fun x => x.2.baseline.isSome).length := by
        unfold Fleet.baselines Fleet.units
        rw [List.filter_map, List.length_map]; rfl
      simp only [answerDeliveryRead, State.heard_enter_delivery, State.heard_enter_fleet, running, count, be_found.1,
        List.cons_append, List.nil_append]
  · by_cases address : 1 ≤ a.toNat ∧ a.toNat ≤ 240
    · rw [if_pos address]
      have known := addressOf_single address.1 address.2
      cases found : Fleet.get s.fleet a.toNat with
      | none =>
        refine request_read serves ?_
        simp only [answerUnitRead, known, State.heard_enter_fleet, found, be_found.2]
      | some u =>
        refine request_read serves ?_
        simp only [answerUnitRead, known, State.heard_enter_fleet, State.heard_enter_time, found, be_found.1,
          List.cons_append, List.nil_append]
    · rw [if_neg address]
      refine request_refused serves serves.idle ?_
      simp only [answerUnitRead, addressOf_single_eq_none (a := a) (by omega)]
  · refine request_refused serves serves.idle (answerPlanRead_noTime ?_)
    rw [State.heard_enter_clock]; exact unset
  · refine request_refused serves serves.idle (answerPlanRead_badField ?_ ?_)
    · rw [State.heard_enter_clock]; exact set
    · rw [State.heard_enter_clock]; exact outside
  · have placed := (((bookSound_iff s).mp sound).2.2.1.2 set).1
    refine ⟨(List.range' (field body 0 4) (field body 4 1)).filterMap s.plan.rowFor,
      placed.rows_read low _, fun r mem => ?_, request_read serves ?_⟩
    · obtain ⟨n, -, found⟩ := List.mem_filterMap.mp mem
      exact (Plan.mem_of_rowFor found).1
    · have answered := answerPlanRead_rows (s := (s.heard .market).enter .market .planRead tag) (body := body)
        (by rw [State.heard_enter_clock]; exact set) least most (by rw [State.heard_enter_clock]; exact low)
        (by rw [State.heard_enter_clock]; exact high)
      rw [State.heard_enter_plan, State.heard_enter_profile] at answered
      exact answered

end Sys2Proof.Machine

/-! PROOFS. The fields of a layout, read at their places, and the status layout (R158, R166, Table 10-6). -/

namespace Sys2Proof.Machine

/-! ### A field of joined bytes -/

section Fields

variable {a b : List Byte} {i n : Nat}

/-- A field beyond the first bytes is one of the bytes after them. -/
theorem field_append_right (beyond : a.length ≤ i) : field (a ++ b) i n = field b (i - a.length) n := by
  unfold field
  rw [List.drop_append, List.drop_eq_nil_of_le beyond, List.nil_append]

/-- A field within the first bytes does not read those after them. -/
theorem field_append_left (within : i + n ≤ a.length) : field (a ++ b) i n = field a i n := by
  unfold field
  rw [List.drop_append, List.take_append_of_le_length (by rw [List.length_drop]; omega)]

theorem field_be_zero (n v : Nat) : field (be n v) 0 n = v % 256 ^ n := by
  have whole := field_be [] [] n v
  rwa [List.append_nil, List.nil_append] at whole

theorem field_be_append (n v : Nat) (b : List Byte) : field (be n v ++ b) 0 n = v % 256 ^ n := by
  rw [field_append_left (by rw [be_length]; omega), field_be_zero]

theorem beFlag_eq (x : Bool) : beFlag x = be 1 x.toNat := by cases x <;> rfl

theorem be_byte (x : Byte) : [x] = be 1 x.toNat := by
  have whole := be_readBytes [x]
  simpa [readBytes] using whole.symm

theorem be_zero_append (m n : Nat) : be m 0 ++ be n 0 = be (m + n) 0 := by
  induction m with
  | zero => rw [Nat.zero_add]; rfl
  | succ m ih =>
    rw [Nat.succ_add, be, List.cons_append, ih, be, Nat.zero_div, Nat.zero_div]

/-- A field that carries two's complement reads as the signed number, where that fits (R166). -/
theorem fieldInt_eq {x : Int} (carries : field b i n = (x % (256 ^ n : Nat)).toNat)
    (low : -(256 ^ n : Int) ≤ 2 * x) (high : 2 * x < 256 ^ n) : fieldInt b i n = x := by
  have pos : (0 : Int) < (256 ^ n : Nat) := by positivity
  have cast : ((256 ^ n : Nat) : Int) = 256 ^ n := by push_cast; rfl
  have bound := Int.emod_nonneg x pos.ne'
  have whole : (field b i n : Int) = x % (256 ^ n : Nat) := by rw [carries]; omega
  have tests : 256 ^ n ≤ 2 * field b i n ↔ ((256 ^ n : Nat) : Int) ≤ 2 * (field b i n : Int) := by
    exact_mod_cast Iff.rfl
  have eq : fieldInt b i n = if ((256 ^ n : Nat) : Int) ≤ 2 * (field b i n : Int) then
      (field b i n : Int) - (256 ^ n : Nat) else field b i n := by
    unfold fieldInt
    simp only [tests]
  rw [← cast] at low high
  rw [eq, whole]
  by_cases negative : x < 0
  · have shifted : x % (256 ^ n : Nat) = x + (256 ^ n : Nat) := by
      rw [← Int.add_emod_right, Int.emod_eq_of_lt (by omega) (by omega)]
    rw [shifted, if_pos (by omega)]; omega
  · rw [Int.emod_eq_of_lt (by omega) (by omega), if_neg (by omega)]

theorem field_beInt_zero (n : Nat) (x : Int) : field (beInt n x) 0 n = (x % (256 ^ n : Nat)).toNat := by
  have pos : (0 : Int) < (256 ^ n : Nat) := by positivity
  have small := Int.emod_lt_of_pos x pos
  have least := Int.emod_nonneg x pos.ne'
  unfold beInt
  rw [field_be_zero, Nat.mod_eq_of_lt (by omega)]

theorem field_beInt_append (n : Nat) (x : Int) (b : List Byte) :
    field (beInt n x ++ b) 0 n = (x % (256 ^ n : Nat)).toNat := by
  rw [field_append_left (by rw [beInt_length]; omega), field_beInt_zero]

theorem field_beEnergy_zero (v : Nat) : field (beEnergy v) 0 4 = min v maxWord % 256 ^ 4 := field_be_zero ..

theorem field_beEnergy_append (v : Nat) (b : List Byte) :
    field (beEnergy v ++ b) 0 4 = min v maxWord % 256 ^ 4 := field_be_append ..

end Fields

/-! ### The status layout (R158) -/

/-- The entries of a sound table are at most the bus's 240 addresses (2.1). -/
theorem Fleet.length_le {f : Fleet} (rising : (f.map Prod.fst).Pairwise (· < ·))
    (range : ∀ e ∈ f, 1 ≤ e.1 ∧ e.1 ≤ 240) : f.length ≤ 240 := by
  have distinct : (f.map Prod.fst).Nodup := rising.imp fun less => Nat.ne_of_lt less
  have within : f.map Prod.fst ⊆ List.range' 1 240 := by
    intro a mem
    obtain ⟨e, held, rfl⟩ := List.mem_map.mp mem
    have bounds := range e held
    rw [List.mem_range'_1]; omega
  have fits := (List.subperm_of_subset distinct within).length_le
  rwa [List.length_map, List.length_range'] at fits

/-- The address of the one unit under test (R34). -/
theorem Fleet.underTest_of_mem {f : Fleet} (one : f.oneTest) {e : Nat × UnitRecord} (mem : e ∈ f)
    (test : e.2.inTest = true) : f.underTest = some e.1 := by
  unfold Fleet.underTest
  cases found : f.find? fun e => e.2.inTest with
  | none => exact absurd test (by simpa using List.find?_eq_none.mp found e mem)
  | some d =>
    exact congrArg some (one d (List.mem_of_find?_eq_some found) e mem (by simpa using List.find?_some found) test)

theorem Analog.code_lt (a : Analog) : a.code < 256 := by
  have bit (x : Bool) : x.toNat ≤ 1 := Bool.toNat_le x
  have h1 := bit a.ia.present; have h2 := bit a.ib.present
  have h3 := bit a.ic.present; have h4 := bit a.pnet.present
  have h5 := bit a.ia.overRange; have h6 := bit a.ib.overRange
  have h7 := bit a.ic.overRange; have h8 := bit a.pnet.overRange
  unfold Analog.code
  omega

theorem State.statusBytes_length (s : State) : s.statusBytes.length = 33 := by
  unfold State.statusBytes
  simp only [List.length_append, be_length, beInt_length, beFlag_length]

/-- The figures of the status layout, each at its place (Table 10-6). -/
theorem State.statusBytes_places (s : State) : Places s.statusBytes
    [(0, 1, s.clock.set.toNat), (1, 4, if s.clock.set then s.clock.slot else 0),
      (5, 2, if s.clock.set then s.clock.second else 0),
      (7, 1, s.straps.nomfHigh.toNat + 2 * s.straps.fsrcHigh.toNat), (8, 1, s.book.records.length),
      (9, 1, Fleet.countLink s.fleet .joining), (10, 1, Fleet.countLink s.fleet .live),
      (11, 1, Fleet.countLink s.fleet .stale), (12, 1, Fleet.countLink s.fleet .lost),
      (13, 1, 240 - s.fleet.length), (14, 1, (Fleet.underTest s.fleet).isSome.toNat),
      (15, 1, (Fleet.underTest s.fleet).getD 0), (16, 1, s.episodeOpen.toNat),
      (17, 4, (s.delivery.episode.map Episode.number).getD 0), (21, 1, s.meter.state.code),
      (22, 4, (s.thermal.theta % (256 ^ 4 : Nat)).toNat), (26, 1, s.thermal.zone.code),
      (27, 1, s.thermal.direction.code), (28, 1, s.analog.code), (29, 4, s.link.round)] := by
  unfold State.statusBytes beInt
  simp only [Places, beFlag_eq, List.append_assoc, List.forall_mem_cons, List.not_mem_nil, field_append_right,
    field_be_append, field_be_zero, be_length, Nat.reduceLeDiff, Nat.reduceSub, Nat.le_refl]
  simp

/-- Settles O16: the status layout, its figures within their fields over a sound part. -/
theorem statusReadAnswersTheFigures : Obligations.StatusReadAnswersTheFigures := by
  intro s port tag serves book fleet
  obtain ⟨slots, seconds, -, -, -, small, -⟩ := book
  obtain ⟨⟨rising, range, -, one⟩, -⟩ := (fleetSound_iff s).mp fleet
  have entries := Fleet.length_le rising range
  have reads : answerStatusRead ((s.heard port).enter port .statusRead tag) =
      ((s.heard port).enter port .statusRead tag, .done s.statusBytes) := by
    rw [State.heard_enter_eq]
    cases port <;> rfl
  have places := s.statusBytes_places
  simp only [Places, List.forall_mem_cons] at places
  obtain ⟨set, slot, second, straps, records, joining, live, stale, lost, vacant, testing, tested, opened, number,
    meter, theta, zone, direction, channels, round, -⟩ := places
  have count (l : LinkState) : Fleet.countLink s.fleet l % 256 ^ 1 = Fleet.countLink s.fleet l :=
    Nat.mod_eq_of_lt (lt_of_le_of_lt ((List.length_filter_le ..).trans entries) (by decide))
  have bit (x : Bool) : x.toNat % 256 ^ 1 = x.toNat := by cases x <;> rfl
  have word {v : Nat} (fits : v ≤ maxWord) : v % 256 ^ 4 = v :=
    Nat.mod_eq_of_lt (by unfold maxWord at fits; omega)
  refine ⟨s.statusBytes, request_read serves reads, s.statusBytes_length, ?_, ?_, ?_, ?_, ?_, joining.trans (count _),
    live.trans (count _), stale.trans (count _), lost.trans (count _), ?_, ?_, fun e mem test => ?_, ?_,
    fun e running fits => ?_, ?_, fun low high => ?_, ?_, ?_, ?_, fun fits => round.trans (word fits)⟩
  · exact set.trans (bit _)
  · refine slot.trans (word ?_)
    split
    · exact slots
    · exact Nat.zero_le _
  · refine second.trans (Nat.mod_eq_of_lt ?_)
    split <;> omega
  · refine straps.trans (Nat.mod_eq_of_lt ?_)
    have nomf := Bool.toNat_le s.straps.nomfHigh
    have fsrc := Bool.toNat_le s.straps.fsrcHigh
    omega
  · exact records.trans (Nat.mod_eq_of_lt (by omega))
  · exact vacant.trans (Nat.mod_eq_of_lt (by omega))
  · rw [testing, bit, Bool.toNat_eq_one, Fleet.underTest_isSome_iff]
  · refine tested.trans ?_
    have bounds := range e mem
    rw [Fleet.underTest_of_mem one mem test, Option.getD_some]
    exact Nat.mod_eq_of_lt (by omega)
  · exact opened.trans (bit _)
  · refine number.trans ?_
    rw [running, Option.map_some, Option.getD_some]
    exact word fits
  · refine meter.trans ?_
    cases s.meter.state <;> rfl
  · refine fieldInt_eq ?_ (by omega) (by omega)
    have least := Int.emod_nonneg s.thermal.theta (b := (256 ^ 4 : Nat)) (by decide)
    have most := Int.emod_lt_of_pos s.thermal.theta (b := (256 ^ 4 : Nat)) (by decide)
    exact theta.trans (Nat.mod_eq_of_lt (by omega))
  · refine zone.trans ?_
    cases s.thermal.zone <;> rfl
  · refine direction.trans ?_
    cases s.thermal.direction <;> rfl
  · exact channels.trans (Nat.mod_eq_of_lt s.analog.code_lt)

end Sys2Proof.Machine

/-! PROOFS. The byte order, the check, the codes of chapter 10 (R154, R166, Tables 10-1, 10-3), and the parts that the
layouts share. -/

namespace Sys2Proof.Machine

/-! ### The byte order and the check (R154, R166) -/

section ByteOrder

variable {b : List Byte} {i n : Nat}

/-- A field one byte longer: the number so far, shifted, and the byte. -/
theorem field_succ {x : Byte} (byte : b[i + n]? = some x) :
    field b i (n + 1) = field b i n * 256 + x.toNat := by
  unfold field readBytes
  rw [List.take_add_one, List.getElem?_drop, byte, Option.toList_some, List.foldl_append]
  rfl

theorem crc16_append (l : List Byte) (x : Byte) : crc16 (l ++ [x]) =
    crcBit (crcBit (crcBit (crcBit (crcBit (crcBit (crcBit (crcBit (crc16 l ^^^ (x.setWidth 16 <<< 8))))))))) := by
  unfold crc16
  rw [List.foldl_append]
  rfl

theorem fieldInt_beInt {x : Int} (low : -(256 ^ n : Int) ≤ 2 * x) (high : 2 * x < 256 ^ n) :
    fieldInt (beInt n x) 0 n = x := fieldInt_eq (field_beInt_zero n x) low high

theorem be_zero (n : Nat) : be n 0 = List.replicate n 0 := by
  induction n with
  | zero => rfl
  | succ n ih => simp [be, ih, List.replicate_succ]

theorem readBytes_zeros (n : Nat) : readBytes (List.replicate n 0) = 0 := by
  rw [← be_zero, readBytes_be, Nat.zero_mod]

/-- A field of zero bytes is 0. -/
theorem field_zeros (m : Nat) : field (be m 0) i n = 0 := by
  unfold field
  rw [be_zero, List.drop_replicate, List.take_replicate, readBytes_zeros]

/-- A field of a slice of the bytes is the field at its place. -/
theorem field_slice {at_ m : Nat} (within : i + n ≤ m) :
    field ((b.drop at_).take m) i n = field b (at_ + i) n := by
  unfold field
  rw [List.drop_take, List.take_take, List.drop_drop, Nat.min_eq_left (by omega)]

/-- A field of one item of a list of items of one width. -/
theorem field_flatMap {α : Type} {f : α → List Byte} {w : Nat} (width : ∀ x, (f x).length = w) {l : List α}
    {k : Nat} {x : α} (item : l[k]? = some x) (within : i + n ≤ w) (after : List Byte) :
    field (l.flatMap f ++ after) (w * k + i) n = field (f x) i n := by
  induction l generalizing k with
  | nil => simp at item
  | cons y l ih =>
    rw [List.flatMap_cons, List.append_assoc]
    cases k with
    | zero =>
      rw [List.getElem?_cons_zero] at item
      cases item
      rw [Nat.mul_zero, Nat.zero_add, field_append_left (by rw [width]; exact within)]
    | succ k =>
      rw [List.getElem?_cons_succ] at item
      have place : w * (k + 1) + i - w = w * k + i := by rw [Nat.mul_succ]; omega
      rw [field_append_right (by rw [width, Nat.mul_succ]; omega), width, place]
      exact ih item

theorem length_flatMap_width {α : Type} {f : α → List Byte} {w : Nat} (width : ∀ x, (f x).length = w) (l : List α) :
    (l.flatMap f).length = w * l.length := by
  induction l with
  | nil => rfl
  | cons x l ih => rw [List.flatMap_cons, List.length_append, width, ih, List.length_cons, Nat.mul_succ]; omega

end ByteOrder

/-! ### The codes (Tables 10-1, 10-3, R166) -/

theorem RequestKind.ofCode_code (kind : RequestKind) : RequestKind.ofCode kind.code = some kind := by
  cases kind <;> rfl

theorem RequestKind.ofCode_iff (code : Byte) (kind : RequestKind) :
    RequestKind.ofCode code = some kind ↔ kind.code = code := by
  refine ⟨fun listed => ?_, ?_⟩
  · simpa using List.find?_some listed
  · rintro rfl; exact kind.ofCode_code

/-- The bits of the unit layout's presence byte. -/
theorem testBit_five : ∀ a b c d e : Bool,
    let v := a.toNat + 2 * b.toNat + 4 * c.toNat + 8 * d.toNat + 16 * e.toNat
    (v % 256 ^ 1).testBit 0 = a ∧ (v % 256 ^ 1).testBit 1 = b ∧ (v % 256 ^ 1).testBit 2 = c ∧
      (v % 256 ^ 1).testBit 3 = d ∧ (v % 256 ^ 1).testBit 4 = e := by decide

/-! ### The commitment layout -/

/-- A place of a layout: its field carries the number's low-order bytes. -/
theorem places_nil (b : List Byte) : Places b [] := fun _ mem => absurd mem List.not_mem_nil

theorem places_cons {b : List Byte} {at_ n v : Nat} {l : List (Nat × Nat × Nat)} :
    Places b ((at_, n, v) :: l) ↔ field b at_ n = v % 256 ^ n ∧ Places b l := List.forall_mem_cons

theorem signedPlaces_nil (b : List Byte) : SignedPlaces b [] := fun _ mem => absurd mem List.not_mem_nil

theorem signedPlaces_cons {b : List Byte} {at_ n : Nat} {x : Int} {l : List (Nat × Nat × Int)}
    (carries : field b at_ n = (x % (256 ^ n : Nat)).toNat) (rest : SignedPlaces b l) :
    SignedPlaces b ((at_, n, x) :: l) :=
  List.forall_mem_cons.mpr ⟨fun low high => fieldInt_eq carries low high, rest⟩

section Commitment

variable (c : Commitment)

@[simp] theorem Snapshot.bytes_length (x : Snapshot) : x.bytes.length = 6 := by
  cases x <;> simp [Snapshot.bytes]

@[simp] theorem Commitment.phaseBytes_length : c.phaseBytes.length = 2 := by
  unfold Commitment.phaseBytes
  split <;> rfl

theorem Commitment.bytes_length : c.bytes.length = 51 := by simp [Commitment.bytes]

/-- The fields of a commitment that every record has. -/
theorem Commitment.bytes_places : Places c.bytes
    [(0, 2, c.id), (2, 4, c.marketRef), (6, 4, c.seq), (10, 1, c.snapshot.product.code), (11, 4, c.start),
      (15, 4, c.stop), (19, 4, c.capacity.up), (23, 4, c.capacity.down), (33, 4, min c.requirement.up maxWord),
      (37, 4, min c.requirement.down maxWord), (41, 1, c.standing.code), (42, 1, c.mark.code)] := by
  unfold Commitment.bytes
  simp [places_cons, places_nil, field_append_right, field_be_append, field_beEnergy_append]

theorem Commitment.field_snapshot {i n : Nat} (low : 27 ≤ i) (high : i + n ≤ 33) :
    field c.bytes i n = field c.snapshot.bytes (i - 27) n := by
  have front : c.bytes = (be 2 c.id ++ be 4 c.marketRef ++ be 4 c.seq ++ be 1 c.snapshot.product.code ++ be 4 c.start
      ++ be 4 c.stop ++ be 4 c.capacity.up ++ be 4 c.capacity.down) ++ (c.snapshot.bytes ++
        (beEnergy c.requirement.up ++ beEnergy c.requirement.down ++ be 1 c.standing.code
          ++ be 1 c.mark.code ++ beInt 2 ((c.level.map LevelRecord.level).getD 0)
          ++ beInt 4 ((c.level.map LevelRecord.power).getD 0) ++ c.phaseBytes)) := by
    simp [Commitment.bytes]
  rw [front, field_append_right (by simp; omega), field_append_left (by simp; omega)]
  simp

theorem Commitment.field_level : field c.bytes 43 2 =
    (((c.level.map LevelRecord.level).getD 0) % (256 ^ 2 : Nat)).toNat ∧ field c.bytes 45 4 =
    (((c.level.map LevelRecord.power).getD 0) % (256 ^ 4 : Nat)).toNat := by
  unfold Commitment.bytes
  simp [field_append_right, field_beInt_append]

theorem Commitment.field_phase {i n : Nat} (low : 49 ≤ i) :
    field c.bytes i n = field c.phaseBytes (i - 49) n := by
  unfold Commitment.bytes
  rw [field_append_right (by simp; omega)]
  simp

end Commitment

end Sys2Proof.Machine

/-! PROOFS. The layouts of units, of the availability record, of plan rows, of episodes, and the frames (Tables 10-2,
10-5, 10-6). -/

namespace Sys2Proof.Machine

/-! ### The unit layout -/

section Unit

variable (now a : Nat) (u : UnitRecord)

@[simp] theorem Report.bytes_length (r : Report) : r.bytes.length = 20 := by simp [Report.bytes]

@[simp] theorem TestRecord.bytes_length (t : TestRecord) : (t.bytes now).length = 20 := by simp [TestRecord.bytes]

@[simp] theorem TestOutcome.bytes_length (o : TestOutcome) : o.bytes.length = 3 := by
  cases o <;> simp [TestOutcome.bytes]

@[simp] theorem Hold.bytes_length (h : Hold) : h.bytes.length = 11 := by
  unfold Hold.bytes
  cases h.kind <;> simp

theorem holdBytes_length {holds : List Hold} (few : holds.length ≤ 4) : (holdBytes holds).length = 44 := by
  unfold holdBytes
  rw [List.length_append, length_flatMap_width Hold.bytes_length, List.take_of_length_le few, be_length]
  omega

/-- The bytes a unit's report takes. -/
def UnitRecord.reportBytes : List Byte := (u.report.map Report.bytes).getD (be 20 0)

/-- The bytes a unit's test record takes. -/
def UnitRecord.testBytes : List Byte := (u.testRecord.map (TestRecord.bytes now)).getD (be 20 0)

/-- The bytes a unit's last test takes. -/
def UnitRecord.lastTestBytes : List Byte := (u.lastTest.map TestOutcome.bytes).getD (be 3 0)

@[simp] theorem UnitRecord.reportBytes_length : u.reportBytes.length = 20 := by
  unfold UnitRecord.reportBytes
  cases u.report <;> simp

@[simp] theorem UnitRecord.testBytes_length : (u.testBytes now).length = 20 := by
  unfold UnitRecord.testBytes
  cases u.testRecord <;> simp

@[simp] theorem UnitRecord.lastTestBytes_length : u.lastTestBytes.length = 3 := by
  unfold UnitRecord.lastTestBytes
  cases u.lastTest <;> simp

/-- The unit layout before the report. -/
def UnitRecord.headBytes : List Byte :=
  be 1 a ++ (be 1 u.link.code ++ (be 1 u.misses ++ (be 1 u.mode.code ++ (be 1 u.presence
    ++ (be 4 (u.declared.getD Sides.zero).up ++ (be 4 (u.declared.getD Sides.zero).down
    ++ (be 2 u.g ++ be 1 u.bars.code)))))))

/-- The unit layout between the holds and the test record. -/
def UnitRecord.powerBytes : List Byte :=
  be 4 u.live.up ++ (be 4 u.live.down ++ (beInt 4 u.participation ++ (beInt 4 u.restoration
    ++ (beInt 4 u.setpoint ++ beInt 4 (u.baseline.getD 0)))))

@[simp] theorem UnitRecord.headBytes_length : (u.headBytes a).length = 16 := by simp [UnitRecord.headBytes]

@[simp] theorem UnitRecord.powerBytes_length : u.powerBytes.length = 24 := by simp [UnitRecord.powerBytes]

/-- The unit layout by its parts. -/
theorem UnitRecord.bytes_eq : u.bytes now a = u.headBytes a ++ (u.reportBytes ++ (be 1 u.holds.length ++
    (holdBytes u.holds ++ (u.powerBytes ++ (u.testBytes now ++ u.lastTestBytes))))) := by
  unfold UnitRecord.bytes UnitRecord.headBytes UnitRecord.powerBytes
  simp only [List.append_assoc]
  unfold UnitRecord.reportBytes UnitRecord.testBytes UnitRecord.lastTestBytes
  rfl

variable {u} (few : u.holds.length ≤ 4)

include few in
theorem UnitRecord.bytes_length : (u.bytes now a).length = 128 := by
  rw [UnitRecord.bytes_eq]
  simp [holdBytes_length few]

/-- The fields of the unit layout by the part they lie in. -/
theorem UnitRecord.field_head {i n : Nat} (high : i + n ≤ 16) :
    field (u.bytes now a) i n = field (u.headBytes a) i n := by
  rw [UnitRecord.bytes_eq, field_append_left (by simp; omega)]

theorem UnitRecord.field_report {i n : Nat} (low : 16 ≤ i) (high : i + n ≤ 36) :
    field (u.bytes now a) i n = field u.reportBytes (i - 16) n := by
  rw [UnitRecord.bytes_eq, field_append_right (by simp; omega), field_append_left (by simp; omega)]
  simp

theorem UnitRecord.field_holdCount : field (u.bytes now a) 36 1 = u.holds.length % 256 ^ 1 := by
  rw [UnitRecord.bytes_eq, field_append_right (by simp), field_append_right (by simp)]
  simp [field_be_append]

include few in
theorem UnitRecord.field_holds {i n : Nat} (low : 37 ≤ i) (high : i + n ≤ 81) :
    field (u.bytes now a) i n = field (holdBytes u.holds) (i - 37) n := by
  rw [UnitRecord.bytes_eq, field_append_right (by simp; omega), field_append_right (by simp; omega),
    field_append_right (by simp; omega), field_append_left (by simp [holdBytes_length few]; omega)]
  simp [Nat.sub_sub]

include few in
theorem UnitRecord.field_power {i n : Nat} (low : 81 ≤ i) (high : i + n ≤ 105) :
    field (u.bytes now a) i n = field u.powerBytes (i - 81) n := by
  rw [UnitRecord.bytes_eq, field_append_right (by simp; omega), field_append_right (by simp; omega),
    field_append_right (by simp; omega), field_append_right (by simp [holdBytes_length few]; omega),
    field_append_left (by simp [holdBytes_length few]; omega)]
  simp [Nat.sub_sub, holdBytes_length few]

include few in
theorem UnitRecord.field_test {i n : Nat} (low : 105 ≤ i) (high : i + n ≤ 125) :
    field (u.bytes now a) i n = field (u.testBytes now) (i - 105) n := by
  rw [UnitRecord.bytes_eq, field_append_right (by simp; omega), field_append_right (by simp; omega),
    field_append_right (by simp; omega), field_append_right (by simp [holdBytes_length few]; omega),
    field_append_right (by simp [holdBytes_length few]; omega),
    field_append_left (by simp [holdBytes_length few]; omega)]
  simp [Nat.sub_sub, holdBytes_length few]

include few in
theorem UnitRecord.field_lastTest {i n : Nat} (low : 125 ≤ i) :
    field (u.bytes now a) i n = field u.lastTestBytes (i - 125) n := by
  rw [UnitRecord.bytes_eq, field_append_right (by simp; omega), field_append_right (by simp; omega),
    field_append_right (by simp; omega), field_append_right (by simp [holdBytes_length few]; omega),
    field_append_right (by simp [holdBytes_length few]; omega),
    field_append_right (by simp [holdBytes_length few]; omega)]
  simp [Nat.sub_sub, holdBytes_length few]

end Unit

/-! ### The records of a unit within its layout -/

section UnitParts

variable (now a : Nat) (u : UnitRecord)

theorem UnitRecord.headBytes_places : Places (u.headBytes a)
    [(0, 1, a), (1, 1, u.link.code), (2, 1, u.misses), (3, 1, u.mode.code), (4, 1, u.presence),
      (5, 4, (u.declared.getD Sides.zero).up), (9, 4, (u.declared.getD Sides.zero).down), (13, 2, u.g),
      (15, 1, u.bars.code)] := by
  unfold UnitRecord.headBytes
  simp [places_cons, places_nil, field_append_right, field_be_append, field_be_zero]

/-- A unit that declares nothing: both sides are sent 0. -/
theorem UnitRecord.headBytes_undeclared {u : UnitRecord} (none_ : u.declared = none) :
    field (u.headBytes a) 5 8 = 0 := by
  have merged : u.headBytes a = be 1 a ++ (be 1 u.link.code ++ (be 1 u.misses ++ (be 1 u.mode.code ++
      (be 1 u.presence ++ (be 8 0 ++ (be 2 u.g ++ be 1 u.bars.code)))))) := by
    unfold UnitRecord.headBytes
    rw [none_, ← be_zero_append 4 4, List.append_assoc]; rfl
  rw [merged]
  simp [field_append_right, field_be_append]

theorem UnitRecord.powerBytes_places : field u.powerBytes 0 4 = u.live.up % 256 ^ 4 ∧
    field u.powerBytes 4 4 = u.live.down % 256 ^ 4 ∧
    field u.powerBytes 8 4 = (u.participation % (256 ^ 4 : Nat)).toNat ∧
    field u.powerBytes 12 4 = (u.restoration % (256 ^ 4 : Nat)).toNat ∧
    field u.powerBytes 16 4 = (u.setpoint % (256 ^ 4 : Nat)).toNat ∧
    field u.powerBytes 20 4 = ((u.baseline.getD 0) % (256 ^ 4 : Nat)).toNat := by
  unfold UnitRecord.powerBytes
  simp [field_append_right, field_be_append, field_beInt_append, field_beInt_zero]

theorem Report.bytes_places (r : Report) : Places r.bytes
    [(0, 2, r.soc), (2, 2, r.capacity), (8, 4, r.maxDischarge), (12, 4, r.maxCharge), (16, 2, r.floor),
      (18, 1, r.fault), (19, 1, r.optOut.toNat)] ∧ field r.bytes 4 4 = (r.power % (256 ^ 4 : Nat)).toNat := by
  unfold Report.bytes
  simp [places_cons, places_nil, field_append_right, field_be_append, field_be_zero, field_beInt_append, beFlag_eq]

theorem TestRecord.bytes_places (t : TestRecord) : Places (t.bytes now)
    [(0, 4, (now - t.start) / 10000), (4, 1, t.prior.code), (9, 4, t.power), (13, 1, t.duration),
      (14, 2, t.count)] ∧ field (t.bytes now) 5 4 = (t.preTest % (256 ^ 4 : Nat)).toNat ∧
    field (t.bytes now) 16 4 = (t.accumulator % (256 ^ 4 : Nat)).toNat := by
  unfold TestRecord.bytes msCounts
  simp [places_cons, places_nil, field_append_right, field_be_append, field_beInt_append, field_beInt_zero]

theorem Hold.bytes_places (h : Hold) : Places h.bytes [(0, 4, h.start), (4, 4, h.stop), (8, 1, h.kind.code),
    (9, 2, match h.kind with
      | .withdraw => 0
      | .floor e => e)] := by
  unfold Hold.bytes
  cases h.kind <;> simp [places_cons, places_nil, field_append_right, field_be_append, field_be_zero]

/-- A hold stands at its place (Table 10-6). -/
theorem field_holdBytes {holds : List Hold} (few : holds.length ≤ 4) {k : Nat} {h : Hold} (item : holds[k]? = some h)
    {i n : Nat} (within : i + n ≤ 11) : field (holdBytes holds) (11 * k + i) n = field h.bytes i n := by
  unfold holdBytes
  rw [List.take_of_length_le few]
  exact field_flatMap Hold.bytes_length item within _

/-- The hold places beyond the count are 0 (Table 10-6). -/
theorem field_holdBytes_empty {holds : List Hold} (few : holds.length ≤ 4) {k : Nat} (beyond : holds.length ≤ k) :
    field (holdBytes holds) (11 * k) 11 = 0 := by
  unfold holdBytes
  have length := length_flatMap_width Hold.bytes_length holds
  rw [List.take_of_length_le few, field_append_right (by rw [length]; omega), field_zeros]

end UnitParts

/-! ### The availability record and the plan row -/

theorem Availability.bytes_length (r : Availability) (m : MeterState) (z : Zone) : (r.bytes m z).length = 53 := by
  simp [Availability.bytes]

theorem Availability.bytes_places (r : Availability) (m : MeterState) (z : Zone) : Places (r.bytes m z)
    [(0, 1, r.stamp.isSome.toNat), (1, 4, (r.stamp.getD (0, 0)).1), (5, 2, (r.stamp.getD (0, 0)).2),
      (7, 1, r.eligible), (8, 4, r.power.up), (12, 4, r.power.down),
      (16, 4, min r.energy.up maxWord), (20, 4, min r.energy.down maxWord), (24, 1, r.forceCount),
      (25, 4, r.forceCapacity.up), (29, 4, r.forceCapacity.down),
      (33, 4, min r.forceRequirement.up maxWord), (37, 4, min r.forceRequirement.down maxWord),
      (41, 1, r.liveMarked), (42, 4, r.liveMarkedCapacity.up), (46, 4, r.liveMarkedCapacity.down),
      (50, 1, r.planningMarked), (51, 1, m.code), (52, 1, z.code)] := by
  unfold Availability.bytes
  simp [places_cons, places_nil, field_append_right, field_be_append, field_be_zero, field_beEnergy_append]

/-- A record formed without a clock carries no time. -/
theorem Availability.bytes_unstamped {r : Availability} (none_ : r.stamp = none) (m : MeterState) (z : Zone) :
    field (r.bytes m z) 1 6 = 0 := by
  have stamp : be 4 0 ++ be 2 0 = be 6 0 := rfl
  unfold Availability.bytes
  rw [none_]
  simp only [List.append_assoc, Option.getD_none]
  rw [field_append_right (by simp), ← List.append_assoc (be 4 0), stamp]
  simp [field_be_append]

theorem PlanRow.bytes_length (m : Nat) (r : PlanRow) : (r.bytes m).length = 52 := by simp [PlanRow.bytes]

theorem PlanRow.bytes_places (m : Nat) (r : PlanRow) : Places (r.bytes m)
    [(0, 4, r.slot.getD 0), (4, 4, r.power.up), (8, 4, r.power.down), (12, 4, min r.energy.up maxWord),
      (16, 4, min r.energy.down maxWord), (20, 4, r.power.up * m / 4096),
      (24, 4, min (r.energy.up * m / 4096) maxWord), (28, 4, r.power.down * m / 4096),
      (32, 4, min (r.energy.down * m / 4096) maxWord), (36, 4, r.committed.up), (40, 4, r.committed.down),
      (44, 4, min r.required.up maxWord), (48, 4, min r.required.down maxWord)] := by
  unfold PlanRow.bytes scaled
  simp [places_cons, places_nil, field_append_right, field_be_append, field_beEnergy_append, field_beEnergy_zero]

/-! ### Episodes -/

section Episodes

variable (wh : Nat → Nat) {l : List Contributor} (few : l.length ≤ 8)

theorem contributorBytes_length (id : Nat) (product : Product) (e : Nat) :
    (contributorBytes id product e).length = 7 := by simp [contributorBytes]

theorem contributorBytes_places (c : Contributor) : Places (contributorBytes c.id c.product (wh c.energy))
    [(0, 2, c.id), (2, 1, c.product.code), (3, 4, min (wh c.energy) maxWord)] := by
  unfold contributorBytes
  simp [places_cons, places_nil, field_append_right, field_be_append, field_beEnergy_zero]

include few in
@[simp] theorem contributorList_length : (contributorList wh l).length = 56 := by
  unfold contributorList
  rw [List.length_append, length_flatMap_width fun c => contributorBytes_length ..,
    List.take_of_length_le few, be_length]
  omega

include few in
/-- The contributors of a layout whose bytes from a place on are the contributor list. -/
theorem contributorPlaces_of {b : List Byte} {at_ : Nat} (lies : ∀ i n, i + n ≤ 56 →
    field b (at_ + i) n = field (contributorList wh l) i n) : ContributorPlaces b at_ wh l := by
  have width (c : Contributor) : (contributorBytes c.id c.product (wh c.energy)).length = 7 :=
    contributorBytes_length ..
  refine ⟨fun k c item => ?_, fun k beyond inside => ?_⟩
  · have places := contributorBytes_places wh c
    simp only [places_cons] at places ⊢
    obtain ⟨id, product, energy, -⟩ := places
    have held : k < l.length := (List.getElem?_eq_some_iff.mp item).1
    have entry {i n : Nat} (within : i + n ≤ 7) : field b (at_ + 7 * k + i) n =
        field (contributorBytes c.id c.product (wh c.energy)) i n := by
      rw [Nat.add_assoc, lies _ _ (by omega)]
      unfold contributorList
      rw [List.take_of_length_le few]
      exact field_flatMap width item within _
    refine ⟨(entry (i := 0) (by omega)).trans id, (entry (by omega)).trans (product.trans ?_),
      (entry (by omega)).trans energy, places_nil b⟩
    cases c.product <;> rfl
  · have length := length_flatMap_width width l
    rw [lies _ _ (by omega)]
    unfold contributorList
    rw [List.take_of_length_le few, field_append_right (by rw [length]; omega), field_zeros]

variable (r : EpisodeRecord) (e : Episode) (baselines : Nat)

theorem EpisodeRecord.bytes_length (few : r.contributors.length ≤ 8) : r.bytes.length = 104 := by
  simp [EpisodeRecord.bytes, contributorList_length id few]

theorem EpisodeRecord.bytes_places (few : r.contributors.length ≤ 8) : Places r.bytes
    [(0, 4, r.number), (4, 4, r.openSlot), (8, 2, r.openSecond), (10, 4, r.closeSlot), (14, 2, r.closeSecond),
      (16, 1, r.contributors.length), (73, 1, r.overflow.toNat), (74, 4, r.peak),
      (78, 4, min r.energies.required maxWord), (82, 4, min r.energies.permitted maxWord),
      (86, 4, min r.energies.delivered maxWord), (90, 4, min r.energies.gridLimited maxWord),
      (94, 4, min r.energies.shortfall maxWord), (98, 4, r.shortCycles), (102, 1, r.outcome.code),
      (103, 1, r.gridLimited.toNat)] := by
  unfold EpisodeRecord.bytes
  simp [places_cons, places_nil, field_append_right, field_be_append, field_be_zero, field_beEnergy_append,
    beFlag_eq, contributorList_length id few]

theorem EpisodeRecord.field_contributors (few : r.contributors.length ≤ 8) {i n : Nat} (within : i + n ≤ 56) :
    field r.bytes (17 + i) n = field (contributorList id r.contributors) i n := by
  unfold EpisodeRecord.bytes
  simp only [List.append_assoc]
  iterate 6 rw [field_append_right (by simp only [be_length]; omega)]
  rw [field_append_left (by rw [contributorList_length id few]; simp only [be_length]; omega)]
  have place : 17 + i - 4 - 4 - 2 - 4 - 2 - 1 = i := by omega
  simp only [be_length, place]

theorem Episode.bytes_length (few : e.contributors.length ≤ 8) : (e.bytes baselines).length = 117 := by
  unfold Episode.bytes
  simp only [List.length_append, be_length, beInt_length, beEnergy_length, beFlag_length,
    contributorList_length wattHours few]

theorem Episode.bytes_places (few : e.contributors.length ≤ 8) : Places (e.bytes baselines)
    [(0, 4, e.number), (4, 4, e.openSlot), (8, 2, e.openSecond),
      (10, 4, min (e.energies.required / 18000) maxWord), (14, 4, min (e.energies.permitted / 18000) maxWord),
      (18, 4, min (e.energies.gridLimited / 18000) maxWord),
      (22, 4, min (e.energies.delivered / 18000) maxWord),
      (26, 4, min (e.energies.shortfall / 18000) maxWord), (30, 4, e.peak),
      (34, 1, e.contributors.length), (91, 1, e.overflow.toNat), (92, 4, e.shortCycles), (96, 1, e.shortRun),
      (97, 1, e.grace), (98, 2, e.quiet), (116, 1, baselines)] := by
  unfold Episode.bytes
  simp [places_cons, places_nil, field_append_right, field_be_append, field_be_zero, field_beEnergy_append,
    beFlag_eq, contributorList_length wattHours few, wattHours]

theorem Episode.field_signed (few : e.contributors.length ≤ 8) :
    field (e.bytes baselines) 100 4 = (e.delivered % (256 ^ 4 : Nat)).toNat ∧
      field (e.bytes baselines) 104 4 = (e.lastRequired % (256 ^ 4 : Nat)).toNat ∧
      field (e.bytes baselines) 108 4 = (e.lastPermitted % (256 ^ 4 : Nat)).toNat ∧
      field (e.bytes baselines) 112 4 = (e.lastAsked % (256 ^ 4 : Nat)).toNat := by
  unfold Episode.bytes
  simp [field_append_right, field_beInt_append, beFlag_eq, contributorList_length wattHours few]

theorem Episode.field_contributors (few : e.contributors.length ≤ 8) {i n : Nat} (within : i + n ≤ 56) :
    field (e.bytes baselines) (35 + i) n = field (contributorList wattHours e.contributors) i n := by
  unfold Episode.bytes
  simp only [List.append_assoc]
  iterate 10 rw [field_append_right (by simp only [be_length, beEnergy_length]; omega)]
  rw [field_append_left (by
    rw [contributorList_length wattHours few]; simp only [be_length, beEnergy_length]; omega)]
  have place : 35 + i - 4 - 4 - 2 - 4 - 4 - 4 - 4 - 4 - 4 - 1 = i := by omega
  simp only [be_length, beEnergy_length, place]

end Episodes

/-! ### Frames (Tables 10-2, 10-5) -/

section Frames

/-- The setpoint frame before its check. -/
def SetpointFrame.covered (f : SetpointFrame) : List Byte :=
  be 1 10 ++ (be 1 1 ++ (be 1 f.address ++ (beInt 4 f.setpoint ++
    be 1 (f.participating.toNat + 2 * f.restoring.toNat + 4 * f.test.toNat + 8 * f.episode.toNat))))

theorem SetpointFrame.covered_length (f : SetpointFrame) : f.covered.length = 8 := by
  simp [SetpointFrame.covered]

theorem SetpointFrame.bytes_eq (f : SetpointFrame) : f.bytes = f.covered ++ be 2 (crc16 f.covered).toNat := by
  have head : [10#8, 1#8] = be 1 10 ++ be 1 1 := rfl
  unfold SetpointFrame.bytes SetpointFrame.covered crcBytes
  dsimp only
  rw [head]
  simp only [List.append_assoc]

theorem SetpointFrame.bytes_length (f : SetpointFrame) : f.bytes.length = 10 := by
  rw [f.bytes_eq, List.length_append, f.covered_length, be_length]

theorem SetpointFrame.bytes_take (f : SetpointFrame) : f.bytes.take 8 = f.covered := by
  rw [f.bytes_eq, List.take_left' f.covered_length]

theorem SetpointFrame.covered_places (f : SetpointFrame) : Places f.covered
    [(0, 1, 10), (1, 1, 1), (2, 1, f.address),
      (7, 1, f.participating.toNat + 2 * f.restoring.toNat + 4 * f.test.toNat + 8 * f.episode.toNat)] ∧
    field f.covered 3 4 = (f.setpoint % (256 ^ 4 : Nat)).toNat := by
  unfold SetpointFrame.covered
  simp [places_cons, places_nil, field_append_right, field_be_append, field_be_zero, field_beInt_append]

theorem SetpointFrame.field_covered (f : SetpointFrame) {i n : Nat} (within : i + n ≤ 8) :
    field f.bytes i n = field f.covered i n := by
  rw [f.bytes_eq, field_append_left (by rw [f.covered_length]; exact within)]

theorem SetpointFrame.field_check (f : SetpointFrame) :
    field f.bytes 8 2 = (crc16 (f.bytes.take 8)).toNat % 256 ^ 2 := by
  rw [f.bytes_take, f.bytes_eq, field_append_right (by rw [f.covered_length]), f.covered_length, Nat.sub_self,
    field_be_zero]

/-- The reply frame's covered bytes before its body. -/
def Reply.head (r : Reply) : List Byte :=
  be 1 (4 + r.body.length) ++ (be 1 r.kind.toNat ++ (be 1 r.tag.toNat ++ (be 1 r.outcome.code.toNat ++
    be 1 r.reason.code.toNat)))

theorem Reply.head_length (r : Reply) : r.head.length = 5 := by simp [Reply.head]

theorem Reply.frame_eq (r : Reply) : r.frame =
    be 2 49980 ++ ((r.head ++ r.body) ++ be 2 (crc16 (r.head ++ r.body)).toNat) := by
  have start : [0xC3#8, 0x3C#8] = be 2 49980 := rfl
  have codes : [r.kind, r.tag, r.outcome.code, r.reason.code] = be 1 r.kind.toNat ++ (be 1 r.tag.toNat ++
      (be 1 r.outcome.code.toNat ++ be 1 r.reason.code.toNat)) := by
    simp only [← be_byte, List.cons_append, List.nil_append]
  unfold Reply.frame Reply.head crcBytes
  dsimp only
  rw [start, codes]
  simp only [List.append_assoc]

theorem Reply.frame_length (r : Reply) : r.frame.length = r.body.length + 9 := by
  rw [r.frame_eq]
  simp only [List.length_append, be_length, r.head_length]
  omega

theorem Reply.frame_places (r : Reply) : Places r.frame
    [(0, 2, 49980), (2, 1, 4 + r.body.length), (3, 1, r.kind.toNat), (4, 1, r.tag.toNat),
      (5, 1, r.outcome.code.toNat), (6, 1, r.reason.code.toNat)] := by
  rw [r.frame_eq]
  unfold Reply.head
  simp [places_cons, places_nil, field_append_right, field_be_append]

theorem Reply.frame_covered (r : Reply) : (r.frame.drop 2).take (5 + r.body.length) = r.head ++ r.body := by
  rw [r.frame_eq, List.drop_left' (be_length 2 _), List.take_left' (by
    rw [List.length_append, r.head_length])]

theorem Reply.frame_check (r : Reply) : field r.frame (7 + r.body.length) 2 =
    (crc16 ((r.frame.drop 2).take (5 + r.body.length))).toNat % 256 ^ 2 := by
  have length : (r.head ++ r.body).length = 5 + r.body.length := by rw [List.length_append, r.head_length]
  have place : 7 + r.body.length - 2 - (5 + r.body.length) = 0 := by omega
  rw [r.frame_covered, r.frame_eq, field_append_right (by rw [be_length]; omega), be_length,
    field_append_right (by rw [length]; omega), length, place, field_be_zero]

theorem Reply.frame_body (r : Reply) : (r.frame.drop 7).take r.body.length = r.body := by
  have split : r.frame.drop 7 = (r.frame.drop 2).drop 5 := by rw [List.drop_drop]
  rw [split, r.frame_eq, List.drop_left' (be_length 2 _), List.append_assoc, List.drop_left' r.head_length,
    List.take_left' rfl]

end Frames

/-! ### Award records (Table 10-4) -/

section Award

variable {body : List Byte} {k : Nat} {r : AwardRecord}

theorem awardRecords_getElem? (item : (awardRecords body)[k]? = some r) :
    r = AwardRecord.ofBytes ((body.drop (1 + 28 * k)).take 28) := by
  unfold awardRecords at item
  rw [List.getElem?_map] at item
  obtain ⟨j, listed, named⟩ := Option.map_eq_some_iff.mp item
  obtain ⟨inside, value⟩ := List.getElem?_eq_some_iff.mp listed
  have same : j = k := by rw [← value, List.getElem_range]
  rw [← named, same]

theorem AwardRecord.places (item : (awardRecords body)[k]? = some r) : Places body
    [(1 + 28 * k, 4, r.marketRef), (5 + 28 * k, 1, r.product), (6 + 28 * k, 4, r.start), (10 + 28 * k, 4, r.stop),
      (14 + 28 * k, 4, r.capacity.up), (18 + 28 * k, 4, r.capacity.down), (22 + 28 * k, 1, r.presence.toNat)] ∧
      r.params = (body.drop (23 + 28 * k)).take 6 := by
  have carried {i n at_ : Nat} (within : i + n ≤ 28) (place : 1 + 28 * k + i = at_) :
      field body at_ n = field ((body.drop (1 + 28 * k)).take 28) i n % 256 ^ n := by
    rw [Nat.mod_eq_of_lt (field_lt ..), field_slice within, place]
  rw [awardRecords_getElem? item]
  simp only [places_cons, AwardRecord.ofBytes]
  refine ⟨⟨carried (by omega) (by omega), carried (by omega) (by omega), carried (by omega) (by omega),
    carried (by omega) (by omega), carried (by omega) (by omega), carried (by omega) (by omega), ?_,
    places_nil body⟩, ?_⟩
  · rw [BitVec.toNat_ofNat]
    refine (carried (i := 21) (by omega) (by omega)).trans ?_
    rw [Nat.mod_eq_of_lt (field_lt ..)]
    have byte := field_lt ((body.drop (1 + 28 * k)).take 28) 21 1
    omega
  · have place : 1 + 28 * k + 22 = 23 + 28 * k := by omega
    rw [List.drop_take, List.take_take, List.drop_drop, place]; rfl

end Award

end Sys2Proof.Machine

/-! PROOFS. The layouts of chapter 10, record by record, and the obligation over all of them. -/

namespace Sys2Proof.Machine

/-! ### The commitment by its snapshot and its standing -/

section Commitment

variable {c : Commitment}

theorem Commitment.places_prop {db full eu ed : Nat} (kind : c.snapshot = .prop db full eu ed) :
    Places c.bytes [(10, 1, 1), (27, 2, db), (29, 2, full), (31, 1, eu), (32, 1, ed)] := by
  have places := c.bytes_places
  simp only [places_cons] at places ⊢
  obtain ⟨-, -, -, product, -⟩ := places
  rw [kind] at product
  refine ⟨product, ?_⟩
  simp [places_nil, c.field_snapshot, kind, Snapshot.bytes, field_append_right, field_be_append, field_be_zero]

theorem Commitment.places_trig {d support ramp lockout : Nat} (kind : c.snapshot = .trig d support ramp lockout) :
    Places c.bytes [(10, 1, 2), (27, 2, d), (29, 1, support), (30, 1, ramp), (31, 2, lockout)] := by
  have places := c.bytes_places
  simp only [places_cons] at places ⊢
  obtain ⟨-, -, -, product, -⟩ := places
  rw [kind] at product
  refine ⟨product, ?_⟩
  simp [places_nil, c.field_snapshot, kind, Snapshot.bytes, field_append_right, field_be_append, field_be_zero]

theorem Commitment.places_setp {e ramp : Nat} (kind : c.snapshot = .setp e ramp) :
    Places c.bytes [(10, 1, 3), (27, 1, e), (28, 2, ramp), (30, 3, 0)] := by
  have places := c.bytes_places
  simp only [places_cons] at places ⊢
  obtain ⟨-, -, -, product, -⟩ := places
  rw [kind] at product
  refine ⟨product, ?_⟩
  simp [places_nil, c.field_snapshot, kind, Snapshot.bytes, field_append_right, field_be_append, field_zeros]

theorem Commitment.field_standing : field c.bytes 41 1 = c.standing.code % 256 ^ 1 := by
  have places := c.bytes_places
  simp only [places_cons] at places
  obtain ⟨-, -, -, -, -, -, -, -, -, -, standing, -⟩ := places
  exact standing

/-- A record that has no TRIG phase sends its phase and its count 0. -/
theorem Commitment.phaseBytes_none (idle : ∀ phase, c.level.map LevelRecord.follower ≠ some (.trig phase)) :
    c.phaseBytes = be 2 0 := by
  unfold Commitment.phaseBytes
  split
  case h_5 => rfl
  all_goals exact absurd ‹_› (idle _)

theorem Commitment.places_pending (standing : c.standing = .pending) :
    Places c.bytes [(41, 1, 0), (43, 2, 0), (45, 4, 0), (49, 2, 0)] := by
  have none_ : c.level = none := by unfold Commitment.level; rw [standing]
  obtain ⟨level, power⟩ := c.field_level
  have phase : c.phaseBytes = be 2 0 := Commitment.phaseBytes_none fun phase => by rw [none_]; nofun
  rw [none_] at level power
  refine places_cons.mpr ⟨?_, places_cons.mpr ⟨level, places_cons.mpr ⟨power, places_cons.mpr ⟨?_, places_nil _⟩⟩⟩⟩
  · rw [Commitment.field_standing, standing]; rfl
  · rw [c.field_phase (by omega), phase, field_zeros]
    exact (Nat.zero_mod _).symm

variable {l : LevelRecord} (level : c.level = some l)

include level in
theorem Commitment.places_level : SignedPlaces c.bytes [(43, 2, l.level), (45, 4, l.power)] := by
  obtain ⟨first, second⟩ := c.field_level
  rw [level] at first second
  exact signedPlaces_cons first (signedPlaces_cons second (signedPlaces_nil _))

include level in
/-- The phase and the count of a TRIG record (Table 10-6). -/
theorem Commitment.places_phase {phase : TrigPhase} (trig : l.follower = .trig phase) :
    Places c.bytes (match phase with
      | .ready count => [(49, 1, 0), (50, 1, count)]
      | .firing _ => [(49, 1, 1), (50, 1, 0)]
      | .releasing _ => [(49, 1, 2), (50, 1, 0)]
      | .lockout _ => [(49, 1, 3), (50, 1, 0)]) := by
  have carried : c.level.map LevelRecord.follower = some (.trig phase) := by rw [level, Option.map_some, trig]
  cases phase <;>
    simp [places_cons, places_nil, c.field_phase, Commitment.phaseBytes, carried, field_append_right,
      field_be_append, field_be_zero]

include level in
theorem Commitment.places_noPhase (other : ∀ phase, l.follower ≠ .trig phase) :
    Places c.bytes [(49, 2, 0)] := by
  have phase : c.phaseBytes = be 2 0 := Commitment.phaseBytes_none fun phase => by
    rw [level, Option.map_some]
    exact fun same => other phase (Option.some.inj same)
  refine places_cons.mpr ⟨?_, places_nil _⟩
  rw [c.field_phase (by omega), phase, field_zeros]
  exact (Nat.zero_mod _).symm

end Commitment

/-! ### The unit by its mode, report, holds, baseline and last test -/

section Unit

variable (now a : Nat) {u : UnitRecord} (few : u.holds.length ≤ 4)

/-- The presence byte, bit by bit. -/
theorem UnitRecord.presence_bits :
    (field (u.bytes now a) 4 1).testBit 0 = u.declared.isSome ∧
      (field (u.bytes now a) 4 1).testBit 1 = u.report.isSome ∧
      (field (u.bytes now a) 4 1).testBit 2 = u.baseline.isSome ∧
      (field (u.bytes now a) 4 1).testBit 3 = u.testRecord.isSome ∧
      (field (u.bytes now a) 4 1).testBit 4 = u.lastTest.isSome := by
  have places := u.headBytes_places a
  simp only [places_cons] at places
  obtain ⟨-, -, -, -, presence, -⟩ := places
  rw [UnitRecord.field_head now a (by omega), presence]
  exact testBit_five ..

include few in
/-- The fields that every unit has. -/
theorem UnitRecord.bytes_places : Places (u.bytes now a)
    [(0, 1, a), (2, 1, u.misses), (13, 2, u.g), (36, 1, u.holds.length), (81, 4, u.live.up), (85, 4, u.live.down),
      (1, 1, u.link.code), (15, 1, u.bars.code)] ∧
    SignedPlaces (u.bytes now a)
      [(89, 4, u.participation), (93, 4, u.restoration), (97, 4, u.setpoint)] := by
  have places := u.headBytes_places a
  simp only [places_cons] at places ⊢
  obtain ⟨address, link, misses, -, -, -, -, g, bars, -⟩ := places
  obtain ⟨up, down, participation, restoration, setpoint, -⟩ := u.powerBytes_places
  have head {i n : Nat} (high : i + n ≤ 16) := UnitRecord.field_head now a (u := u) high
  have power {i n : Nat} (low : 81 ≤ i) (high : i + n ≤ 105) := UnitRecord.field_power now a few low high
  refine ⟨⟨?_, ?_, ?_, UnitRecord.field_holdCount now a, ?_, ?_, ?_, ?_, places_nil _⟩,
    signedPlaces_cons ?_ (signedPlaces_cons ?_ (signedPlaces_cons ?_ (signedPlaces_nil _)))⟩
  · exact (head (by omega)).trans address
  · exact (head (by omega)).trans misses
  · exact (head (by omega)).trans g
  · exact (power (by omega) (by omega)).trans up
  · exact (power (by omega) (by omega)).trans down
  · exact (head (by omega)).trans link
  · exact (head (by omega)).trans bars
  · exact (power (by omega) (by omega)).trans participation
  · exact (power (by omega) (by omega)).trans restoration
  · exact (power (by omega) (by omega)).trans setpoint

theorem UnitRecord.places_declared {d : Sides} (declared : u.declared = some d) :
    Places (u.bytes now a) [(5, 4, d.up), (9, 4, d.down)] := by
  have places := u.headBytes_places a
  rw [declared] at places
  simp only [places_cons] at places ⊢
  obtain ⟨-, -, -, -, -, up, down, -⟩ := places
  exact ⟨(UnitRecord.field_head now a (by omega)).trans up, (UnitRecord.field_head now a (by omega)).trans down,
    places_nil _⟩

theorem UnitRecord.places_undeclared (none_ : u.declared = none) : Places (u.bytes now a) [(5, 8, 0)] := by
  refine places_cons.mpr ⟨?_, places_nil _⟩
  rw [UnitRecord.field_head now a (by omega), UnitRecord.headBytes_undeclared a none_]
  rfl

theorem UnitRecord.field_mode : field (u.bytes now a) 3 1 = u.mode.code % 256 ^ 1 := by
  have places := u.headBytes_places a
  simp only [places_cons] at places
  obtain ⟨-, -, -, mode, -⟩ := places
  exact (UnitRecord.field_head now a (by omega)).trans mode

include few in
theorem UnitRecord.places_untested (none_ : u.testRecord = none) : Places (u.bytes now a) [(105, 20, 0)] := by
  have empty : u.testBytes now = be 20 0 := by unfold UnitRecord.testBytes; rw [none_]; rfl
  refine places_cons.mpr ⟨?_, places_nil _⟩
  rw [UnitRecord.field_test now a few (by omega) (by omega), empty, field_zeros]
  exact (Nat.zero_mod _).symm

include few in
theorem UnitRecord.places_test {t : TestRecord} (test : u.testRecord = some t) : Places (u.bytes now a)
    [(105, 4, (now - t.start) / 10000), (109, 1, t.prior.code), (114, 4, t.power), (118, 1, t.duration),
      (119, 2, t.count)] ∧
    SignedPlaces (u.bytes now a) [(110, 4, t.preTest), (121, 4, t.accumulator)] := by
  have carried : u.testBytes now = t.bytes now := by unfold UnitRecord.testBytes; rw [test]; rfl
  obtain ⟨places, before, sum⟩ := t.bytes_places now
  have lies {i n : Nat} (low : 105 ≤ i) (high : i + n ≤ 125) := UnitRecord.field_test now a few low high
  rw [carried] at lies
  simp only [places_cons] at places ⊢
  obtain ⟨since, prior, power, duration, count, -⟩ := places
  refine ⟨⟨?_, ?_, ?_, ?_, ?_, places_nil _⟩, signedPlaces_cons ?_ (signedPlaces_cons ?_ (signedPlaces_nil _))⟩
  · exact (lies (by omega) (by omega)).trans since
  · exact (lies (by omega) (by omega)).trans prior
  · exact (lies (by omega) (by omega)).trans power
  · exact (lies (by omega) (by omega)).trans duration
  · exact (lies (by omega) (by omega)).trans count
  · exact (lies (by omega) (by omega)).trans before
  · exact (lies (by omega) (by omega)).trans sum

theorem UnitRecord.places_unreported (none_ : u.report = none) : Places (u.bytes now a) [(16, 20, 0)] := by
  have empty : u.reportBytes = be 20 0 := by unfold UnitRecord.reportBytes; rw [none_]; rfl
  refine places_cons.mpr ⟨?_, places_nil _⟩
  rw [UnitRecord.field_report now a (by omega) (by omega), empty, field_zeros]
  exact (Nat.zero_mod _).symm

theorem UnitRecord.places_report {r : Report} (report : u.report = some r) : Places (u.bytes now a)
    [(16, 2, r.soc), (18, 2, r.capacity), (24, 4, r.maxDischarge), (28, 4, r.maxCharge), (32, 2, r.floor),
      (34, 1, r.fault), (35, 1, r.optOut.toNat)] ∧ SignedPlaces (u.bytes now a) [(20, 4, r.power)] := by
  have carried : u.reportBytes = r.bytes := by unfold UnitRecord.reportBytes; rw [report]; rfl
  obtain ⟨places, signed⟩ := r.bytes_places
  have lies {i n : Nat} (low : 16 ≤ i) (high : i + n ≤ 36) :=
    UnitRecord.field_report now a (u := u) low high
  rw [carried] at lies
  simp only [places_cons] at places ⊢
  obtain ⟨soc, capacity, discharge, charge, floor, fault, optOut, -⟩ := places
  refine ⟨⟨?_, ?_, ?_, ?_, ?_, ?_, ?_, places_nil _⟩, signedPlaces_cons ?_ (signedPlaces_nil _)⟩
  · exact (lies (by omega) (by omega)).trans soc
  · exact (lies (by omega) (by omega)).trans capacity
  · exact (lies (by omega) (by omega)).trans discharge
  · exact (lies (by omega) (by omega)).trans charge
  · exact (lies (by omega) (by omega)).trans floor
  · exact (lies (by omega) (by omega)).trans fault
  · exact (lies (by omega) (by omega)).trans optOut
  · exact (lies (by omega) (by omega)).trans signed

include few in
theorem UnitRecord.places_hold {k : Nat} {h : Hold} (item : u.holds[k]? = some h) : Places (u.bytes now a)
    [(37 + 11 * k, 4, h.start), (41 + 11 * k, 4, h.stop), (45 + 11 * k, 1, h.kind.code),
      (46 + 11 * k, 2, match h.kind with
        | .withdraw => 0
        | .floor e => e)] := by
  have held : k < u.holds.length := (List.getElem?_eq_some_iff.mp item).1
  have lies {i n at_ : Nat} (within : i + n ≤ 11) (place : at_ = 37 + (11 * k + i)) :
      field (u.bytes now a) at_ n = field h.bytes i n := by
    rw [place, UnitRecord.field_holds now a few (by omega) (by omega), Nat.add_sub_cancel_left]
    exact field_holdBytes few item within
  have places := h.bytes_places
  simp only [places_cons] at places ⊢
  obtain ⟨start, stop, kind, floor, -⟩ := places
  exact ⟨(lies (by omega) (by omega)).trans start, (lies (by omega) (by omega)).trans stop,
    (lies (by omega) (by omega)).trans kind, (lies (by omega) (by omega)).trans floor, places_nil _⟩

include few in
theorem UnitRecord.field_noHold {k : Nat} (beyond : u.holds.length ≤ k) (inside : k < 4) :
    field (u.bytes now a) (37 + 11 * k) 11 = 0 := by
  rw [UnitRecord.field_holds now a few (by omega) (by omega), Nat.add_sub_cancel_left]
  exact field_holdBytes_empty few beyond

include few in
theorem UnitRecord.field_baseline :
    field (u.bytes now a) 101 4 = ((u.baseline.getD 0) % (256 ^ 4 : Nat)).toNat := by
  obtain ⟨-, -, -, -, -, baseline⟩ := u.powerBytes_places
  exact (UnitRecord.field_power now a few (by omega) (by omega)).trans baseline

include few in
theorem UnitRecord.places_noLastTest (none_ : u.lastTest = none) : Places (u.bytes now a) [(125, 3, 0)] := by
  have empty : u.lastTestBytes = be 3 0 := by unfold UnitRecord.lastTestBytes; rw [none_]; rfl
  refine places_cons.mpr ⟨?_, places_nil _⟩
  rw [UnitRecord.field_lastTest now a few (by omega), empty, field_zeros]
  exact (Nat.zero_mod _).symm

include few in
theorem UnitRecord.places_lastTest {o : TestOutcome} (last : u.lastTest = some o) : Places (u.bytes now a)
    [(125, 1, o.code), (126, 2, match o with
      | .passed g => g
      | .low g => g
      | .aborted => 0)] := by
  have carried : u.lastTestBytes = o.bytes := by unfold UnitRecord.lastTestBytes; rw [last]; rfl
  have lies {i n : Nat} (low : 125 ≤ i) := UnitRecord.field_lastTest now a few (i := i) (n := n) low
  rw [carried] at lies
  refine places_cons.mpr ⟨?_, places_cons.mpr ⟨?_, places_nil _⟩⟩
  · rw [lies (by omega)]
    unfold TestOutcome.bytes
    rw [Nat.sub_self, field_be_append]
  · rw [lies (by omega)]
    unfold TestOutcome.bytes
    cases o <;> simp [field_append_right, field_be_zero]

end Unit

/-! ### The obligation -/

/-- A unit under test, or in a plain mode, by its mode. -/
theorem UnitRecord.enrolled_of {u : UnitRecord} {m : EnrolMode}
    (mode : u.mode = .plain m ∨ ∃ t, u.mode = .test t ∧ t.prior = m) : u.mode.enrolled = m := by
  rcases mode with plain | ⟨t, test, rfl⟩
  · rw [plain]; rfl
  · rw [test]; rfl

/-- The unit layout by the unit's mode (Tables 2-1, 10-6). -/
theorem UnitRecord.declared_of {u : UnitRecord} {m : EnrolMode} (enrolled : u.mode.enrolled = m) :
    (∀ d, m = .manual d → u.declared = some d) ∧ ((∀ d, m ≠ .manual d) → u.declared = none) := by
  unfold UnitRecord.declared
  rw [enrolled]
  refine ⟨?_, fun other => ?_⟩
  · rintro d rfl; rfl
  · cases m with
    | manual d => exact absurd rfl (other d)
    | off => rfl
    | auto => rfl

theorem UnitRecord.testRecord_of {u : UnitRecord} :
    (∀ m, u.mode = .plain m → u.testRecord = none) ∧ ∀ t, u.mode = .test t → u.testRecord = some t := by
  unfold UnitRecord.testRecord
  exact ⟨fun m plain => by rw [plain], fun t test => by rw [test]⟩

/-- Settles O17: the byte order, the tables of codes, and each layout by its places. -/
theorem layoutsHaveTheirLengths : Obligations.LayoutsHaveTheirLengths := by
  refine ⟨⟨⟨fun b i n => ⟨rfl, fun x => field_succ, rfl⟩, fun n v => ⟨be_length n v, field_be_zero n v⟩,
      fun n x => ⟨beInt_length n x, fieldInt_beInt⟩, ⟨crcBit, fun c => rfl, rfl, crc16_append⟩, by decide +kernel⟩,
      ⟨fun kind relayed body => by cases kind <;> cases relayed <;> rfl, RequestKind.ofCode_iff⟩,
      fun r => by cases r <;> rfl, fun m => by cases m <;> rfl, fun z => by cases z <;> rfl,
      fun d => by cases d <;> rfl, fun set k => by cases k <;> rfl,
      fun port k => by cases port <;> cases k <;> rfl⟩,
    ⟨fun c => ⟨c.bytes_length, ?_, fun _ _ _ _ => Commitment.places_prop, fun _ _ _ _ => Commitment.places_trig,
      fun _ _ => Commitment.places_setp, Commitment.places_pending, fun l force => ?_, fun l overrun => ?_,
      fun l level => ?_⟩, fun body k r => AwardRecord.places⟩,
    ⟨fun now a u few => ⟨UnitRecord.bytes_length now a few, u.bytes now a, rfl, ?_⟩,
      fun r m z => ⟨r.bytes_length m z, ?_, fun none_ => ?_, fun slot second stamp => ?_⟩,
      fun m r => ⟨r.bytes_length m, ?_, fun slot stands => ?_⟩⟩,
    ⟨fun r few => ⟨r.bytes_length few, ?_, ?_⟩, fun n e few => ⟨e.bytes_length n few, e.bytes_places n few, ?_, ?_⟩⟩,
    State.statusBytes_length, fun f => ⟨f.bytes_length, ?_, ?_⟩,
    fun r => ⟨r.frame_length, ?_, r.frame_body⟩⟩
  · have places := c.bytes_places
    simp only [places_cons] at places ⊢
    obtain ⟨id, ref, seq, -, start, stop, up, down, requiredUp, requiredDown, -, mark, -⟩ := places
    refine ⟨id, ref, seq, start, stop, up, down, requiredUp, requiredDown, mark.trans ?_, places_nil _⟩
    cases c.mark <;> rfl
  · refine places_cons.mpr ⟨?_, places_nil _⟩
    rw [Commitment.field_standing, force]; rfl
  · refine places_cons.mpr ⟨?_, places_nil _⟩
    rw [Commitment.field_standing, overrun]; rfl
  · have held : c.level = some l := by
      unfold Commitment.level
      rcases level with force | overrun
      · rw [force]
      · rw [overrun]
    exact ⟨Commitment.places_level held, fun _ => Commitment.places_phase held, fun _ => Commitment.places_phase held,
      fun _ => Commitment.places_phase held, fun _ => Commitment.places_phase held, Commitment.places_noPhase held⟩
  · obtain ⟨declared, report, baseline, test, last⟩ := UnitRecord.presence_bits now a (u := u)
    obtain ⟨places, signed⟩ := UnitRecord.bytes_places now a few
    obtain ⟨untested, tested⟩ := UnitRecord.testRecord_of (u := u)
    refine ⟨?_, signed, fun m mode => ⟨?_, fun d manual => ?_, fun other => ?_, fun plain => ⟨?_, ?_⟩,
        fun t running => ⟨?_, ?_⟩⟩, report, UnitRecord.places_unreported now a,
      fun r => UnitRecord.places_report now a, fun k h item => ?_, fun k => UnitRecord.field_noHold now a few,
      baseline, fun none_ => ?_, fun x held => ?_, last, UnitRecord.places_noLastTest now a few,
      fun g => UnitRecord.places_lastTest now a few, fun g => UnitRecord.places_lastTest now a few,
      UnitRecord.places_lastTest now a few⟩
    · simp only [places_cons] at places ⊢
      obtain ⟨address, misses, g, count, up, down, link, bars, -⟩ := places
      refine ⟨address, misses, g, count, up, down, link.trans ?_, bars, places_nil _⟩
      cases u.link <;> rfl
    · rw [declared]
      obtain ⟨manual, other⟩ := UnitRecord.declared_of (UnitRecord.enrolled_of mode)
      cases m with
      | manual d => rw [manual d rfl]; rfl
      | off => rw [other nofun]; rfl
      | auto => rw [other nofun]; rfl
    · exact UnitRecord.places_declared now a ((UnitRecord.declared_of (UnitRecord.enrolled_of mode)).1 d manual)
    · exact UnitRecord.places_undeclared now a ((UnitRecord.declared_of (UnitRecord.enrolled_of mode)).2 other)
    · refine places_cons.mpr ⟨?_, UnitRecord.places_untested now a few (untested m plain)⟩
      rw [UnitRecord.field_mode, plain]
      cases m <;> rfl
    · rw [test, untested m plain]; rfl
    · rw [test, tested t running]; rfl
    · have prior : t.prior = m := by
        rcases mode with plain | ⟨t', running', rfl⟩
        · rw [plain] at running; cases running
        · rw [running'] at running; cases running; rfl
      obtain ⟨held, signedTest⟩ := UnitRecord.places_test now a few (tested t running)
      simp only [places_cons] at held ⊢
      obtain ⟨since, code, power, duration, count, -⟩ := held
      refine ⟨⟨?_, since, code.trans ?_, power, duration, count, places_nil _⟩, signedTest⟩
      · rw [UnitRecord.field_mode, running]; rfl
      · rw [prior]
        cases m <;> rfl
    · have held := UnitRecord.places_hold now a few item
      simp only [places_cons] at held ⊢
      obtain ⟨start, stop, kind, floor, -⟩ := held
      refine ⟨⟨start, stop, places_nil _⟩, fun withdraw => ?_, fun e energy => ?_⟩
      · rw [withdraw] at kind floor
        exact ⟨kind, floor, places_nil _⟩
      · rw [energy] at kind floor
        exact ⟨kind, floor, places_nil _⟩
    · refine places_cons.mpr ⟨?_, places_nil _⟩
      rw [UnitRecord.field_baseline now a few, none_]; rfl
    · refine signedPlaces_cons ?_ (signedPlaces_nil _)
      rw [UnitRecord.field_baseline now a few, held]; rfl
  · have places := r.bytes_places m z
    simp only [places_cons] at places ⊢
    obtain ⟨set, -, -, rest⟩ := places
    exact ⟨set, rest⟩
  · refine places_cons.mpr ⟨?_, places_nil _⟩
    rw [Availability.bytes_unstamped none_]; exact (Nat.zero_mod _).symm
  · have places := r.bytes_places m z
    rw [stamp] at places
    simp only [places_cons] at places ⊢
    obtain ⟨-, first, next, -⟩ := places
    exact ⟨first, next, places_nil _⟩
  · have places := r.bytes_places m
    simp only [places_cons] at places ⊢
    obtain ⟨-, rest⟩ := places
    exact rest
  · have places := r.bytes_places m
    rw [stands] at places
    simp only [places_cons] at places ⊢
    obtain ⟨first, -⟩ := places
    exact ⟨first, places_nil _⟩
  · have places := r.bytes_places few
    simp only [places_cons] at places ⊢
    obtain ⟨number, openSlot, openSecond, closeSlot, closeSecond, count, overflow, peak, required, permitted,
      delivered, grid, shortfall, cycles, outcome, limited, -⟩ := places
    refine ⟨number, openSlot, openSecond, closeSlot, closeSecond, count, overflow, peak, required, permitted,
      delivered, grid, shortfall, cycles, outcome.trans ?_, limited, places_nil _⟩
    cases r.outcome <;> rfl
  · exact contributorPlaces_of id few fun i n => r.field_contributors few
  · obtain ⟨delivered, required, permitted, asked⟩ := e.field_signed n few
    exact signedPlaces_cons delivered (signedPlaces_cons required (signedPlaces_cons permitted
      (signedPlaces_cons asked (signedPlaces_nil _))))
  · exact contributorPlaces_of wattHours few fun i w => e.field_contributors n few
  · obtain ⟨places, -⟩ := f.covered_places
    simp only [places_cons] at places ⊢
    obtain ⟨length, kind, address, flags, -⟩ := places
    exact ⟨(f.field_covered (by omega)).trans length, (f.field_covered (by omega)).trans kind,
      (f.field_covered (by omega)).trans address, (f.field_covered (by omega)).trans flags, f.field_check,
      places_nil _⟩
  · obtain ⟨-, setpoint⟩ := f.covered_places
    exact signedPlaces_cons ((f.field_covered (by omega)).trans setpoint) (signedPlaces_nil _)
  · have places := r.frame_places
    simp only [places_cons] at places ⊢
    obtain ⟨start, length, kind, tag, outcome, reason, -⟩ := places
    refine ⟨start, length, kind, tag, outcome.trans ?_, reason, r.frame_check, places_nil _⟩
    cases r.outcome <;> rfl

end Sys2Proof.Machine

/-! PROOFS. Starts (R171, R172): the profile chosen, the notices posted, the first visit of round 0. -/

namespace Sys2Proof.Machine

/-! ### The profile a start loads (R171) -/

theorem Store.startup_eq (x : Store) : x.startup = startupTable x := by
  unfold Store.startup startupTable
  cases x.selector.valid with
  | false => rfl
  | true =>
    cases x.selector.slot with
    | factory => rfl
    | one => cases valid : x.slot1.valid <;> simp [Store.slot, valid]
    | two => cases valid : x.slot2.valid <;> simp [Store.slot, valid]

theorem Store.cut_startup (x : Store) : x.cut.startup = startupTable x := by
  rw [Store.startup_eq]
  rfl

/-! ### The notices a start posts (R157, R161, R164, R165) -/

/-- A new kind joins the pending set. -/
theorem PortState.post_new {x : PortState} {k : Notice} (new : hasNotice x.notices k = false) (pulse : Bool)
    (enables : NoticeSet) : (x.post pulse enables k).notices = x.notices ||| k.mask := by
  cases pulse with
  | false => rw [PortState.post_level new]
  | true =>
    cases enabled : hasNotice enables k with
    | false => rw [PortState.post_masked new enabled]
    | true =>
      rw [PortState.post_pulse new enabled]
      split <;> rfl

section Posted

variable (pulse : Bool) (enables : NoticeSet)

theorem PortState.initial_postEach_clock :
    (PortState.initial.postEach pulse enables [.clock]).notices = 0x100#12 :=
  PortState.post_new (x := .initial) (k := .clock) rfl pulse enables

theorem PortState.initial_postEach_store :
    (PortState.initial.postEach pulse enables [.clock, .store]).notices = 0x900#12 := by
  have first := PortState.initial_postEach_clock pulse enables
  have absent : hasNotice (PortState.initial.postEach pulse enables [.clock]).notices .store = false := by
    rw [first]; rfl
  refine (PortState.post_new absent pulse enables).trans ?_
  rw [first]; rfl

theorem startupNotices_nodup (store : Store) (port : Port) : (startupNotices store port).Nodup := by
  unfold startupNotices
  split <;> decide

theorem startupNotices_length (store : Store) (port : Port) : (startupNotices store port).length ≤ 2 := by
  unfold startupNotices
  split <;> decide

/-- The pulses of a start: one for each enabled kind, the first already begun (R165). -/
theorem PortState.initial_pulses (store : Store) (port : Port) {posted : List Notice}
    (kinds : posted = (startupNotices store port).filter (hasNotice enables)) :
    (PortState.initial.postEach true enables (startupNotices store port)).line = decide (0 < posted.length) ∧
      (PortState.initial.postEach true enables (startupNotices store port)).gap = false ∧
      (PortState.initial.postEach true enables (startupNotices store port)).owed = posted.length - 1 := by
  have gives : PortState.initial.pulses enables = hasNotice enables := by
    funext k
    have fresh : hasNotice PortState.initial.notices k = false := by cases k <;> rfl
    unfold PortState.pulses
    rw [fresh]; rfl
  have count : (startupNotices store port).countP (PortState.initial.pulses enables) = posted.length := by
    rw [gives, kinds, List.countP_eq_length_filter]
  have few : posted.length ≤ 2 := by
    rw [← count]
    exact List.countP_le_length.trans (startupNotices_length store port)
  obtain ⟨gap, -, idle⟩ := PortState.postEach_pulse (x := PortState.initial) (enables := enables)
    (startupNotices_nodup store port) (Nat.zero_le _)
  obtain ⟨line, owed⟩ := idle rfl rfl
  rw [count] at line owed
  refine ⟨line, gap, owed.trans ?_⟩
  have rest : PortState.initial.owed = 0 := rfl
  omega

end Posted

/-! ### The part after a start -/

section StartUp

variable (s : State)

/-- The table a start builds. -/
def State.startFleet : Fleet := Fleet.ofEnrolment (startupTable s.store).1.enrolment

/-- The port after a start's postings. -/
def State.startPort (port : Port) : PortState :=
  PortState.initial.postEach ((startupTable s.store).1.profile.pulseMode port)
    ((startupTable s.store).1.profile.enables port) (startupNotices s.store port)

/-- The part as round 0 begins. -/
def State.started : State :=
  { s.blocksReset (startupTable s.store).1.profile s.startFleet with
    market := s.startPort .market, operator := s.startPort .operator }

theorem State.startUp_eq : s.startUp = { s.started with link := s.started.startWalk.link } := by
  have posts : ((s.blocksReset (startupTable s.store).1.profile s.startFleet).post .clock).postIf
      (startupTable s.store).2 .store = s.started := by
    have store (t : State) : t.post .store = { t with
        market := t.market.post (t.profile.pulseMode .market) (t.profile.enables .market) .store } := by
      rw [State.post_ports]; rfl
    have clock (t : State) : t.post .clock = { t with
        market := t.market.post (t.profile.pulseMode .market) (t.profile.enables .market) .clock
        operator := t.operator.post (t.profile.pulseMode .operator) (t.profile.enables .operator) .clock } := by
      rw [State.post_ports]; rfl
    have one (x : PortState) (pulse : Bool) (e : NoticeSet) (k : Notice) :
      x.postEach pulse e [k] = x.post pulse e k := rfl
    have two (x : PortState) (pulse : Bool) (e : NoticeSet) (k j : Notice) :
      x.postEach pulse e [k, j] = (x.post pulse e k).post pulse e j := rfl
    have operator : startupNotices s.store .operator = [.clock] := by
      unfold startupNotices; rw [if_neg (by simp)]
    unfold State.started State.startPort
    rw [clock, operator, one]
    cases fell : (startupTable s.store).2 with
    | false =>
      have market : startupNotices s.store .market = [.clock] := by
        unfold startupNotices; rw [fell, if_neg (by simp)]
      rw [market, one]
      rfl
    | true =>
      have market : startupNotices s.store .market = [.clock, .store] := by
        unfold startupNotices; rw [fell]; rfl
      rw [market, two, State.postIf_true, store]
      dsimp only [State.blocksReset]
  have walks (t : State) : t.startWalk = { t with link := t.startWalk.link } := by
    obtain ⟨l, walk⟩ := t.startWalk_eq
    rw [walk]
  unfold State.startUp
  dsimp only
  rw [Store.cut_startup]
  refine Eq.trans ?_ (walks s.started)
  rw [← posts]
  rfl

/-- The first walk passes the addresses from 1 to 240 in turn. -/
theorem walkOrder_one : walkOrder 1 = List.range' 1 240 := List.append_nil _

/-- The first entry of a sound table is the first that round 0 visits (R126). -/
theorem find_visited_head {e : Nat × UnitRecord} {rest : Fleet}
    (rising : ((e :: rest).map Prod.fst).Pairwise (· < ·)) (range : 1 ≤ e.1 ∧ e.1 ≤ 240) :
    (walkOrder 1).find? (visited (e :: rest) 0) = some e.1 := by
  have found : Fleet.get (e :: rest) e.1 = some e.2 := by unfold Fleet.get; exact if_pos rfl
  rw [walkOrder_one, visited_eq, List.find?_range'_eq_some]
  refine ⟨by rw [found, Option.any_some]; exact Bool.or_true _, List.mem_range'_1.mpr (by omega),
    fun b _ before => ?_⟩
  have absent : Fleet.get (e :: rest) b = none := by
    rw [List.map_cons, List.pairwise_cons] at rising
    cases listed : Fleet.get (e :: rest) b with
    | none => rfl
    | some u =>
      have mem := Fleet.mem_of_get listed
      rcases List.mem_cons.mp mem with same | later
      · exact absurd (congrArg Prod.fst same) (by change ¬b = e.1; omega)
      · have after := rising.1 b (List.mem_map_of_mem (f := Prod.fst) later)
        omega
  rw [absent]; rfl

theorem find_visited_nil : (walkOrder 1).find? (visited [] 0) = none := by
  rw [List.find?_eq_none]
  intro b _
  rw [visited_eq]
  exact Bool.false_ne_true

/-- A sound enrolment list builds a table in rising order (R38). -/
theorem EnrolmentSound.table {l : List EnrolEntry} (sound : EnrolmentSound l) :
    ((Fleet.ofEnrolment l).map Prod.fst).Pairwise (· < ·) ∧ ∀ e ∈ Fleet.ofEnrolment l, 1 ≤ e.1 ∧ e.1 ≤ 240 := by
  obtain ⟨rising, entries⟩ := sound
  have keys : (Fleet.ofEnrolment l).map Prod.fst = l.map EnrolEntry.address := by
    unfold Fleet.ofEnrolment; rw [List.map_map]; rfl
  refine ⟨by rw [keys]; exact rising, fun e mem => ?_⟩
  obtain ⟨d, held, rfl⟩ := List.mem_map.mp mem
  obtain ⟨low, high, -⟩ := entries d held
  exact ⟨low, high⟩

theorem State.started_link : s.started.link = .initial := rfl

theorem State.started_nextVisit : s.started.nextVisit = (walkOrder 1).find? (visited s.startFleet 0) := rfl

/-- Round 0's first visit, or pacing where the table is empty (R124 to R127). -/
theorem State.startUp_first_visit (sound : EnrolmentSound (startupTable s.store).1.enrolment) :
    match s.startFleet.head? with
    | none => s.started.startWalk.link.phase = .pacing ∧ s.started.startWalk.link.fbde = false ∧
        s.started.startWalk.link.position = none ∧ s.started.startWalk.link.visit = none
    | some e => s.started.startWalk.link.phase = .sending ∧ s.started.startWalk.link.fbde = true ∧
        s.started.startWalk.link.position = some e.1 ∧ s.started.startWalk.link.visit =
          some ⟨e.1, ⟨e.1, 0, false, false, false, false⟩,
            (startupTable s.store).1.profile.nat .replyTimeout, false, []⟩ := by
  obtain ⟨rising, range⟩ := sound.table
  have next := s.started_nextVisit
  cases table : s.startFleet with
  | nil =>
    rw [table, find_visited_nil] at next
    dsimp only [List.head?]
    rw [State.startWalk_none next]
    exact ⟨rfl, rfl, rfl, rfl⟩
  | cons e rest =>
    have listed : Fleet.ofEnrolment (startupTable s.store).1.enrolment = e :: rest := table
    rw [listed] at rising range
    rw [table, find_visited_head rising (range e List.mem_cons_self)] at next
    have found : Fleet.get s.started.fleet e.1 = some e.2 := by
      change Fleet.get s.startFleet e.1 = some e.2
      rw [table]; unfold Fleet.get; exact if_pos rfl
    obtain ⟨d, -, built⟩ := List.mem_map.mp (show e ∈ Fleet.ofEnrolment _ from listed ▸ List.mem_cons_self)
    have frame : setpointFrame e.1 e.2 s.started.episodeOpen = ⟨e.1, 0, false, false, false, false⟩ := by
      rw [← built]; rfl
    dsimp only [List.head?]
    rw [State.startWalk_found next found, frame]
    exact ⟨rfl, rfl, rfl, rfl⟩

end StartUp

/-! ### The obligations -/

theorem State.startUp_started {s : State} (running : s.running = true) : Started s.straps s.store s.startUp := by
  have kinds (port : Port) : (s.started.port port) = s.startPort port := by cases port <;> rfl
  have keeps (port : Port) : PortState.initial.Attends (s.startPort port) := PortState.attends_postEach ..
  have ports (port : Port) : (s.startUp.port port) = s.startPort port := by
    rw [State.startUp_eq, ← kinds]
    cases port <;> rfl
  have profile : s.startUp.profile = (startupTable s.store).1.profile := by rw [State.startUp_eq]; rfl
  have link : s.startUp.link = s.started.startWalk.link := by rw [State.startUp_eq]
  have pulse (port : Port) (e : NoticeSet) := PortState.initial_pulses e s.store port rfl
  constructor
  case first_visit =>
    intro sound
    have visit := s.startUp_first_visit sound
    rw [link, profile]
    rw [State.startUp_eq]
    exact visit
  case round_eq =>
    obtain ⟨timer, round, start⟩ := s.started.startWalk_round
    rw [link]
    exact ⟨start, round, timer⟩
  case first_set =>
    rw [profile, State.startUp_eq]
    exact enabledChannels_eq _
  case thermal_eq => rw [State.startUp_eq]; rfl
  case channels_eq =>
    intro c
    rw [State.startUp_eq]
    cases c <;> rfl
  case market_notices =>
    refine (congrArg PortState.notices (ports .market)).trans ?_
    unfold State.startPort startupNotices
    cases (startupTable s.store).2 with
    | false => exact PortState.initial_postEach_clock ..
    | true => exact PortState.initial_postEach_store ..
  case operator_notices =>
    refine (congrArg PortState.notices (ports .operator)).trans ?_
    unfold State.startPort startupNotices
    rw [if_neg (by simp)]
    exact PortState.initial_postEach_clock ..
  case level_lines =>
    intro port level
    rw [profile] at level ⊢
    rw [ports]
    unfold State.startPort
    rw [level]
    exact PortState.postEach_level ⟨by simp [PortState.initial], rfl, rfl⟩
  case pulse_lines =>
    intro port mode
    rw [profile] at mode ⊢
    rw [ports]
    unfold State.startPort
    rw [mode]
    exact ⟨_, rfl, pulse port _⟩
  case ports_eq =>
    intro port
    rw [ports, keeps port]
    exact ⟨rfl, rfl, rfl, rfl, rfl, rfl⟩
  case running_eq => rw [State.startUp_eq]; exact running
  all_goals rw [State.startUp_eq]; rfl

theorem State.startOrHold_running {s : State} (running : s.running = true) : s.startOrHold = s.startUp :=
  if_pos running

theorem State.startOrHold_held {s : State} (held : s.running = false) : s.startOrHold = s.held :=
  if_neg (by rw [held]; exact Bool.false_ne_true)

/-- Settles O5: every way to start is `startUp` over the straps and the store it starts with. -/
theorem startsLoadTheChosenProfile : Obligations.StartsLoadTheChosenProfile := by
  refine ⟨fun s nomf fsrc high => ?_, fun s low powered => ?_, fun s tag running serving => ⟨?_, fun reason body
    sending => ?_⟩⟩
  · have running : State.running { s with powered := true, straps := ⟨nomf, fsrc⟩ } = true :=
      (State.running_iff _).mpr ⟨rfl, high⟩
    exact ⟨_, congrArg Host.Outcome.next (State.startOrHold_running running), State.startUp_started running⟩
  · have running : State.running { s with resetLow := false } = true := (State.running_iff _).mpr ⟨powered, rfl⟩
    have released : exec .resetPinRelease s = .next (State.startOrHold { s with resetLow := false }) :=
      congrArg Host.Outcome.next (if_pos low)
    exact ⟨_, released.trans (congrArg _ (State.startOrHold_running running)), State.startUp_started running⟩
  · have restarting : s.restarting = true := by unfold State.restarting; rw [serving]; rfl
    refine ⟨s.startUp, ?_, State.startUp_started running⟩
    exact (whenRunning_running (fun s => if s.restarting then s.startUp else s) running).trans
      (congrArg _ (if_pos restarting))
  · have restarting : s.restarting = true := by unfold State.restarting; rw [serving]; rfl
    have sends : s.sendingRestart .market = true := by
      unfold State.sendingRestart
      rw [restarting, sending]; rfl
    refine ⟨s.startUp, ?_, State.startUp_started running⟩
    exact (whenRunning_running (fun s =>
      if s.sendingRestart .market then s.startUp else s.setPort .market (s.port .market).transmitted) running).trans
      (congrArg _ (if_pos sends))

/-! ### The part held in reset or without supply (R172) -/

/-- A part that does not run takes no command but those of its supply and its RESET pin. -/
theorem exec_not_running {s : State} (held : s.running = false) {c : Instr} (other : isPowerCommand c = false) :
    exec c s = .next s := by
  cases c
  case powerOn => cases other
  case supplyLoss => cases other
  case resetPinLow => cases other
  case resetPinRelease => cases other
  case award | withdraw | release | bookOpen | bookNext | timeSync | level | freq | planRead | availRead | enrol
      | retire | unitMode | unitTest | unitRead | logOpen | logNext | deliveryRead | paramSet | paramRead
      | paramDescribe | profileSave | profileLoad | profileStartup | noticeRead | noticeMask | statusRead
      | restart => exact request_not_running held
  case requestDiscarded port => exact whenRunning_held (fun s => s.setPort port (s.port port).discard) held
  case receiverSilence port => exact whenRunning_held (fun s => s.setPort port (s.port port).discard) held
  case replyTransmitted port =>
    exact whenRunning_held (fun s => if s.sendingRestart port then s.startUp
      else s.setPort port (s.port port).transmitted) held
  case lockoutTimerExpiry id =>
    exact whenRunning_held (fun s => s.setRecords
      (changeId id.toNat (fun c => c.mapLevel fun l => l.mapPhase endLockout) s.book.records)) held
  case portByteReceived => exact if_pos (by rw [held]; rfl)
  all_goals exact whenRunning_held _ held

/-- Settles O6: a command that leaves the part held leaves `held`, and no other acts on it. -/
theorem heldPartDrivesItsLinesLow : Obligations.HeldPartDrivesItsLinesLow := by
  have lost (s : State) : State.startOrHold { s with powered := false } = State.held { s with powered := false } :=
    State.startOrHold_held rfl
  have pulled (s : State) : State.startOrHold { s with resetLow := true } = State.held { s with resetLow := true } :=
    State.startOrHold_held (by simp [State.running])
  refine ⟨fun s t nomf fsrc leaves => ?_, ⟨fun s => ⟨_, congrArg Host.Outcome.next (lost s), rfl, rfl, rfl⟩,
    fun s => ⟨_, congrArg Host.Outcome.next (pulled s), rfl, rfl, rfl⟩⟩, fun s c held other =>
      exec_not_running held other⟩
  have ends : ∃ u : State, t = u.held ∧ u.running = false ∧ u.store = s.store ∧ u.pending = s.pending := by
    rcases leaves with done | done | ⟨low, done⟩ | ⟨low, unpowered, done⟩
    · cases done
      exact ⟨{ s with powered := false }, lost s, rfl, rfl, rfl⟩
    · cases done
      exact ⟨{ s with resetLow := true }, pulled s, by simp [State.running], rfl, rfl⟩
    · cases done
      have held : State.running { s with powered := true, straps := ⟨nomf, fsrc⟩ } = false := by
        simp [State.running, low]
      exact ⟨_, State.startOrHold_held held, held, rfl, rfl⟩
    · have held : State.running { s with resetLow := false } = false := by simp [State.running, unpowered]
      have released : exec .resetPinRelease s = .next (State.startOrHold { s with resetLow := false }) :=
        congrArg Host.Outcome.next (if_pos low)
      rw [released] at done
      cases done
      exact ⟨_, State.startOrHold_held held, held, rfl, rfl⟩
  obtain ⟨u, rfl, held, store, pending⟩ := ends
  refine ⟨held, rfl, rfl, rfl, rfl, rfl, rfl, rfl, rfl, rfl, ?_, pending⟩
  rw [← store]; rfl

/-! ### The reset state (log entries 6, 24) -/

/-- The reset state is what a start over low straps and a new store leaves. -/
theorem State.reset_startUp : State.reset.startUp = State.reset := by
  rw [State.startUp_eq]
  rfl

theorem EnrolmentSound.nil : EnrolmentSound [] := ⟨.nil, fun _ mem => absurd mem List.not_mem_nil⟩

theorem State.reset_thermal : ThermalSound State.reset :=
  (thermalSound_iff _).mpr ⟨⟨Profile.factory_sound, Profile.factory_sound, Profile.factory_sound, nofun⟩,
    Thermal.initial_lawful Profile.factory_sound⟩

theorem State.reset_ports : PortsSound State.reset := by
  refine ⟨fun port => ?_, nofun⟩
  cases port
  all_goals exact ⟨rfl, fun _ => ⟨rfl, rfl, rfl⟩, fun pulse => absurd pulse (by decide), Nat.zero_le _, fun _ => rfl⟩

/-- Settles O7: each block's initial state meets its law. -/
theorem resetMeetsEveryBlockLaw : Obligations.ResetMeetsEveryBlockLaw := by
  have starts : Started ⟨false, false⟩ Store.manufactured State.reset := by
    have started := State.startUp_started (s := State.reset) rfl
    rwa [State.reset_startUp] at started
  refine ⟨State.reset_thermal, bookSound_of_initial rfl rfl rfl rfl, (levelsSound_iff _).mpr ⟨?_, ?_⟩,
    (fleetSound_iff _).mpr ⟨?_, ?_⟩, (meterSound_iff _).mpr (Meter.initial_lawful _),
    (linkSound_iff _).mpr ⟨Link.initial_lawful, ?_, fun _ _ => rfl⟩,
    (deliverySound_iff _).mpr ⟨State.reset_thermal, Delivery.initial_lawful⟩, State.reset_ports, starts, rfl⟩
  · exact ⟨Nat.le_refl _, by decide, by decide⟩
  · exact fun c mem => absurd mem List.not_mem_nil
  · exact Fleet.ofEnrolment_lawful EnrolmentSound.nil
  · exact ⟨EnrolmentSound.nil, EnrolmentSound.nil, nofun⟩
  · exact ⟨Nat.le_refl _, by decide⟩

end Sys2Proof.Machine

/-! PROOFS. The queue's front, the idle tick, and events that the state met cannot raise (log entries 1, 2). -/

namespace Sys2Proof.Machine

/-- Settles O1: `step` by its definition on a queue with a front. -/
theorem stepTakesTheFrontCommand : Obligations.StepTakesTheFrontCommand := by
  intro s c rest queued
  unfold step
  rw [queued]

theorem step_idle {s : State} (empty : s.pending = []) : step s = .next s.tick := by
  unfold step
  rw [empty]

/-- Settles O2: on an empty queue a step is the tick, of a running part or of one that is held. -/
theorem idleStepIsOneMillisecond : Obligations.IdleStepIsOneMillisecond := by
  intro s empty
  rw [step_idle empty]
  refine ⟨fun held => ?_, fun running => ⟨s.tick, rfl, ?_⟩⟩
  · unfold State.tick
    rw [if_neg (by rw [held]; exact Bool.false_ne_true)]
  · unfold State.tick
    rw [if_pos running]
    exact ⟨rfl, rfl, rfl, rfl, fun set low => if_pos ⟨set, low⟩, fun unset =>
      if_neg fun both => Bool.false_ne_true (unset.symm.trans both.1)⟩

/-! ### Events that the state met cannot raise -/

/-- An event that leaves the state it meets as it is does so whether the part runs or not. -/
theorem whenRunning_same {f : State → State} {s : State} (same : f s = s) : whenRunning f s = .next s := by
  cases running : s.running with
  | false => exact whenRunning_held f running
  | true => rw [whenRunning_running f running, same]

theorem changeId_absent {id : Nat} {f : Commitment → Commitment} {l : List Commitment}
    (absent : l.find? (fun c => c.id == id) = none) : changeId id f l = l := by
  have others : ∀ c ∈ l, ¬c.id = id := fun c mem => by simpa using List.find?_eq_none.mp absent c mem
  unfold changeId
  refine (List.map_congr_left fun c mem => ?_).trans (List.map_id l)
  exact if_neg (by simpa using others c mem)

section Unraised

variable {s : State}

theorem State.discard_hunting {port : Port} {first : Bool} (hunting : (s.port port).receiver = .hunting first) :
    s.setPort port (s.port port).discard = s := by
  have same : (s.port port).discard = s.port port := by unfold PortState.discard; rw [hunting]
  rw [same, State.setPort_self]

theorem State.restarting_false (other : ∀ v, s.market.service = some v → v.kind ≠ .restart) :
    s.restarting = false := by
  unfold State.restarting
  cases serving : s.market.service with
  | none => rfl
  | some v => exact beq_eq_false_iff_ne.mpr (other v serving)

theorem State.saveComplete_idle (idle : s.store.write = none) : s.saveComplete = s := by
  unfold State.saveComplete; rw [idle]

theorem State.startupComplete_idle (idle : s.store.write = none) : s.startupComplete = s := by
  unfold State.startupComplete; rw [idle]

theorem State.testExpiry_idle (none_ : ∀ e ∈ s.fleet, e.2.inTest = false) : s.testExpiry = s := by
  have nobody : s.fleet.underTest = none := by
    rw [← Option.not_isSome_iff_eq_none, Fleet.underTest_isSome_iff]
    exact fun ⟨e, mem, test⟩ => Bool.false_ne_true ((none_ e mem).symm.trans test)
  unfold State.testExpiry
  rw [nobody]

theorem State.endAwaiting_other (other : ∀ timeout, s.link.phase ≠ .awaiting timeout) (buffer : List Byte)
    (judge : Visit → Except FailureCause CarriedReport) : s.endAwaiting buffer judge = s := by
  unfold State.endAwaiting
  split
  · exact absurd ‹_› (other _)
  · rfl

theorem State.quiet_other (other : ∀ wait bound, s.link.phase ≠ .quiet wait bound) :
    s.quietEnd = s ∧ s.quietCharacter = s := by
  unfold State.quietEnd State.quietCharacter
  constructor
  · split
    · exact absurd ‹_› (other _ _)
    · rfl
  · split
    · exact absurd ‹_› (other _ _)
    · rfl

theorem State.frameSent_other (other : s.link.phase ≠ .sending) : s.frameSent = s := by
  unfold State.frameSent
  split
  · exact absurd ‹_› other
  · rfl

end Unraised

/-- Settles O4: each event's function is the identity on the states that cannot raise it. -/
theorem eventsThatCannotOccurChangeNothing : Obligations.EventsThatCannotOccurChangeNothing := by
  intro s port id code length frame
  refine ⟨fun high => ?_, fun other => ?_, fun idle => ⟨?_, ?_⟩, fun first hunting => ⟨?_, ?_⟩, fun level => ?_,
    fun unarmed => ?_, fun unarmed => ?_, fun unarmed => ⟨?_, ?_⟩, fun absent => ⟨?_, ?_⟩, fun none_ => ?_,
    fun done => ?_, fun unarmed => ?_, fun other => ?_, fun other => ⟨?_, ?_⟩, fun other => ⟨?_, ?_⟩,
    fun incomplete => ?_⟩
  · exact congrArg Host.Outcome.next (if_neg (by rw [high]; exact Bool.false_ne_true))
  · refine whenRunning_same (f := fun s => if s.restarting then s.startUp else s) ?_
    exact if_neg (by rw [State.restarting_false other]; exact Bool.false_ne_true)
  · exact whenRunning_same (State.saveComplete_idle idle)
  · exact whenRunning_same (State.startupComplete_idle idle)
  · exact whenRunning_same (f := fun s => s.setPort port (s.port port).discard) (State.discard_hunting hunting)
  · exact whenRunning_same (f := fun s => s.setPort port (s.port port).discard) (State.discard_hunting hunting)
  · refine whenRunning_same (f := fun s =>
      if s.profile.pulseMode port then s.setPort port (s.port port).pulseTimer else s) ?_
    exact if_neg (by rw [level]; exact Bool.false_ne_true)
  · exact whenRunning_same (f := State.lossExpiry) (if_pos (by rw [unarmed]; rfl))
  · exact whenRunning_same (f := State.silenceExpiry) (if_pos (by rw [unarmed]; rfl))
  · exact whenRunning_same (f := State.ageLate) (if_neg (by rw [unarmed]; exact Bool.false_ne_true))
  · exact whenRunning_same (f := State.ageExpired) (if_neg (by rw [unarmed]; exact Bool.false_ne_true))
  · refine whenRunning_same (f := State.supportExpiry id.toNat) ?_
    unfold State.supportExpiry
    rw [absent]
  · refine whenRunning_same (f := fun s => s.setRecords
      (changeId id.toNat (fun c => c.mapLevel fun l => l.mapPhase endLockout) s.book.records)) ?_
    rw [changeId_absent absent]
    rfl
  · exact whenRunning_same (State.testExpiry_idle none_)
  · refine whenRunning_same (f := State.convert code) ?_
    unfold State.convert
    rw [done]
  · refine whenRunning_same (f := State.roundExpiry) ?_
    unfold State.roundExpiry
    rw [unarmed]
  · exact whenRunning_same (State.frameSent_other other)
  · exact whenRunning_same (f := State.replyExpiry) (State.endAwaiting_other other ..)
  · refine whenRunning_same (f := State.lengthInvalid length) ?_
    unfold State.lengthInvalid
    rw [State.endAwaiting_other other, ite_self]
  · exact whenRunning_same (State.quiet_other other).1
  · exact whenRunning_same (State.quiet_other other).2
  · exact whenRunning_same (f := State.frameReceived frame) (if_pos (by rw [incomplete]; rfl))

end Sys2Proof.Machine

/-! PROOFS. No command reads the queue or writes it: each operation of the model commutes with another queue. -/

namespace Sys2Proof.Machine

/-- The part over another queue. -/
def State.queued (s : State) (q : List Instr) : State := { s with pending := q }

/-! ### What a part over another queue shows -/

section Fields

variable (s : State) (q : List Instr)

@[simp] theorem State.queued_book : (s.queued q).book = s.book := rfl
@[simp] theorem State.queued_fleet : (s.queued q).fleet = s.fleet := rfl
@[simp] theorem State.queued_meter : (s.queued q).meter = s.meter := rfl
@[simp] theorem State.queued_analog : (s.queued q).analog = s.analog := rfl
@[simp] theorem State.queued_link : (s.queued q).link = s.link := rfl
@[simp] theorem State.queued_delivery : (s.queued q).delivery = s.delivery := rfl
@[simp] theorem State.queued_market : (s.queued q).market = s.market := rfl
@[simp] theorem State.queued_store : (s.queued q).store = s.store := rfl

end Fields

/-! ### Branches that decide alike -/

section Branches

variable {α : Type} {q : List Instr}

theorem State.queued_ite {c : Prop} [Decidable c] {a b a' b' : State} (yes : a' = a.queued q) (no : b' = b.queued q) :
    (if c then a' else b') = (if c then a else b).queued q := by
  rw [yes, no]; split <;> rfl

/-- An owner's part and answer over another queue. -/
def onQueue (q : List Instr) (x : State × α) : State × α := (x.1.queued q, x.2)

theorem onQueue_ite {c : Prop} [Decidable c] {a b a' b' : State × α} (yes : a' = onQueue q a)
    (no : b' = onQueue q b) : (if c then a' else b') = onQueue q (if c then a else b) := by
  rw [yes, no]; split <;> rfl

theorem onQueue_mk {t t' : State} {x : α} (same : t' = t.queued q) : (t', x) = onQueue q (t, x) :=
  congrArg (Prod.mk · x) same

end Branches

/-- An operation that neither reads the queue nor writes it. -/
def QueueBlind (f : State → State) : Prop := ∀ s q, f (s.queued q) = (f s).queued q

/-- An owner that neither reads the queue nor writes it, whatever it answers. -/
def QueueBlindOwner {α : Type} (f : State → State × α) : Prop := ∀ s q, f (s.queued q) = onQueue q (f s)

/-! ### The shared operations -/

section Shared

variable (s : State) (q : List Instr)

theorem State.queued_setPort (port : Port) (x : PortState) :
    (s.queued q).setPort port x = (s.setPort port x).queued q := by cases port <;> rfl

theorem State.queued_port (port : Port) : (s.queued q).port port = s.port port := by cases port <;> rfl

theorem State.queued_post (k : Notice) : (s.queued q).post k = (s.post k).queued q := by
  rw [State.post_ports, State.post_ports]; rfl

theorem State.queued_postIf (c : Bool) (k : Notice) : (s.queued q).postIf c k = (s.postIf c k).queued q := by
  cases c
  · rfl
  · exact s.queued_post q k

theorem State.queued_removeCommitment (c : Commitment) :
    (s.queued q).removeCommitment c = (s.removeCommitment c).queued q :=
  State.queued_post { s.setRecords (s.book.records.filter fun d => d.id != c.id) with
    plan := s.plan.mapRows (PlanRow.uncommit c), marked := s.marked.filter fun i => i != c.id } q .book

theorem State.queued_removeAll (l : List Commitment) :
    (s.queued q).removeAll l = (s.removeAll l).queued q := by
  induction l generalizing s with
  | nil => rfl
  | cons c l ih =>
    refine Eq.trans ?_ (ih (s.removeCommitment c))
    exact congrArg (State.removeAll · l) (s.queued_removeCommitment q c)

/-- Two notices after one change of the part. -/
theorem State.queued_postIf_postIf (a b : Bool) (j k : Notice) :
    ((s.queued q).postIf a j).postIf b k = ((s.postIf a j).postIf b k).queued q := by
  rw [State.queued_postIf, State.queued_postIf]

end Shared

/-! ### The clock and the book -/

/-- The records of a boundary's end, before its notice (R11). -/
def State.endedRecords (n : Nat) (s : State) : State :=
  s.setRecords (s.book.records.map fun c => if c.expired n && c.inPulse then c.overrun else c)

theorem queueBlind_endExpired (n : Nat) : QueueBlind (State.endExpired n) := by
  intro s q
  have left := s.queued_removeAll q ((s.book.records.filter (Commitment.expired n)).filter fun c => !c.inPulse)
  refine Eq.trans ?_ (State.queued_postIf (State.endedRecords n (s.removeAll
    ((s.book.records.filter (Commitment.expired n)).filter fun c => !c.inPulse))) q
      (!(s.book.records.filter (Commitment.expired n)).isEmpty) .book)
  exact congrArg (fun t => State.postIf (State.endedRecords n t)
    (!(s.book.records.filter (Commitment.expired n)).isEmpty) .book) left

theorem queueBlind_startDue (n : Nat) : QueueBlind (State.startDue n) := by
  intro s q
  unfold State.startDue
  exact State.queued_postIf (s.setRecords _) q _ .book

theorem queueBlind_boundary (n : Nat) : QueueBlind (State.boundary n) := by
  intro s q
  unfold State.boundary
  rw [queueBlind_endExpired, queueBlind_startDue]
  rfl

theorem queueBlind_boundaries (k held : Nat) : QueueBlind (State.boundaries k held) := by
  intro s q
  induction k generalizing s held with
  | zero => rfl
  | succ k ih =>
    unfold State.boundaries
    rw [queueBlind_boundary (held + 1), ih]

theorem queueBlind_passBoundary : QueueBlind State.passBoundary := by
  intro s q
  unfold State.passBoundary
  exact State.queued_ite rfl (State.queued_ite rfl
    (queueBlind_boundary _ (s.setClock (s.clock.slot + 1) 0) q))

theorem queueBlind_passSecond : QueueBlind State.passSecond := by
  intro s q
  unfold State.passSecond
  exact State.queued_ite rfl (State.queued_ite rfl (State.queued_ite rfl rfl))

theorem queueBlind_answerTimeSync (body : List Byte) : QueueBlindOwner (answerTimeSync body) := by
  intro s q
  have crossed := queueBlind_boundaries (field body 0 4 - s.clock.slot) s.clock.slot s q
  unfold answerTimeSync
  refine onQueue_ite rfl (onQueue_ite (onQueue_mk ?_) (onQueue_ite rfl (onQueue_mk ?_)))
  · exact State.queued_post { s.setClock (field body 0 4) (field body 4 2) with
      plan := Plan.build s.profile s.fleet (field body 0 4) } q .clock
  · exact congrArg (State.setClock · (field body 0 4) (field body 4 2)) crossed

theorem queueBlind_takeAward (r : AwardRecord) : QueueBlindOwner (State.takeAward · r) := by
  intro s q
  have checks : awardChecks (s.queued q) r = awardChecks s r := rfl
  dsimp only
  unfold State.takeAward
  rw [checks]
  cases awardChecks s r with
  | error result => rfl
  | ok taken => exact onQueue_mk (State.queued_post { s with
      book := ⟨insertByKey _ s.book.records, nextSequence _, _⟩
      plan := s.plan.mapRows (PlanRow.commit _) } q .book)

theorem queueBlind_takeAwards (l : List AwardRecord) : QueueBlindOwner (State.takeAwards l) := by
  intro s q
  induction l generalizing s with
  | nil => rfl
  | cons r rest ih =>
    have one : (s.queued q).takeAward r = onQueue q (s.takeAward r) := queueBlind_takeAward r s q
    have others := ih (s.takeAward r).1
    unfold State.takeAwards
    rw [one]
    exact congrArg (fun x => (x.1, (s.takeAward r).2 :: x.2)) others

theorem queueBlind_answerAward (body : List Byte) : QueueBlindOwner (answerAward body) := by
  intro s q
  have batch := queueBlind_takeAwards (awardRecords body) s q
  unfold answerAward
  exact onQueue_ite rfl
    (congrArg (fun x => (x.1, Answer.done (be 1 (field body 0 1) ++ x.2.flatMap AwardResult.bytes))) batch)

theorem queueBlind_answerRemoval (pending : Bool) (body : List Byte) :
    QueueBlindOwner (answerRemoval pending body) := by
  intro s q
  unfold answerRemoval
  simp only [State.queued_book]
  cases s.book.find (field body 0 2) with
  | none => rfl
  | some c => exact onQueue_ite (onQueue_mk (s.queued_removeCommitment q c)) rfl

theorem queueBlind_answerBookOpen (port : Port) : QueueBlindOwner (answerBookOpen port) := by
  intro s q
  cases port <;> rfl

theorem queueBlind_answerBookNext (port : Port) : QueueBlindOwner (answerBookNext port) := by
  intro s q
  unfold answerBookNext
  rw [State.queued_port]
  simp only [State.queued_book]
  cases (s.port port).bookCursor with
  | closed => rfl
  | opened last =>
    dsimp only
    cases s.book.above last with
    | none => rfl
    | some c => exact onQueue_mk (s.queued_setPort q port _)

/-! ### Levels -/

theorem queueBlind_cycleComputation : QueueBlind State.cycleComputation := by
  intro s q
  have left := s.queued_removeAll q (s.book.records.filter Commitment.endsPulse)
  exact congrArg (fun t : State => { t.setRecords (t.book.records.map (Commitment.cycle s.cycleInputs)) with
    levels := { t.levels with holdover := s.cycleInputs.holdover } }) left

theorem queueBlind_supportExpiry (id : Nat) : QueueBlind (State.supportExpiry id) := by
  intro s q
  unfold State.supportExpiry
  simp only [State.queued_book]
  cases s.book.find id with
  | none => rfl
  | some c => exact State.queued_ite rfl (State.queued_ite (s.queued_removeCommitment q c) rfl)

theorem queueBlind_answerLevel (body : List Byte) : QueueBlindOwner (answerLevel body) := fun _ _ => rfl

theorem queueBlind_ageLate : QueueBlind State.ageLate := by
  intro s q
  unfold State.ageLate
  exact State.queued_ite (State.queued_post { s with levels := { s.levels with age := .late } } q .levelLost) rfl

theorem queueBlind_ageExpired : QueueBlind State.ageExpired := by
  intro s q
  unfold State.ageExpired
  exact State.queued_ite rfl rfl

/-! ### The meter, the conversions and the thermal model -/

theorem queueBlind_moveMeter (m : Meter) : QueueBlind (State.moveMeter · m) := by
  intro s q
  have posts := State.queued_postIf { s with meter := m } q (m.state != s.meter.state) .freq
  exact State.queued_ite (congrArg State.takeLeftValid posts) posts

/-- A move of the meter and its measurement (R63, R67). -/
theorem queueBlind_moveMeasure (m : Meter) (f : Nat) : QueueBlind fun s => (s.moveMeter m).measure f := by
  intro s q
  exact congrArg (State.measure · f) (queueBlind_moveMeter m s q)

theorem queueBlind_goodPeriod (p : Nat) : QueueBlind (State.goodPeriod · p) := by
  intro s q
  dsimp only
  unfold State.goodPeriod
  simp only [State.queued_meter]
  cases s.meter.state with
  | acquiring => exact State.queued_ite (queueBlind_moveMeasure _ _ s q) (queueBlind_moveMeter _ s q)
  | valid => exact queueBlind_moveMeasure _ _ s q
  | invalid => exact queueBlind_moveMeter _ s q
  | lost => exact queueBlind_moveMeter _ s q

theorem queueBlind_badPeriod : QueueBlind State.badPeriod := by
  intro s q
  unfold State.badPeriod
  simp only [State.queued_meter]
  cases s.meter.state with
  | acquiring | valid => exact State.queued_ite (queueBlind_moveMeter _ s q) (queueBlind_moveMeter _ s q)
  | invalid | lost => exact queueBlind_moveMeter _ s q

theorem queueBlind_firstEdge : QueueBlind State.firstEdge := by
  intro s q
  unfold State.firstEdge
  exact State.queued_ite (queueBlind_moveMeter _ s q) rfl

/-- The capture counter stands at an edge's capture (R61). -/
def State.captured (capture : Capture) (s : State) : State :=
  { s with meter := { s.meter with counter := capture } }

/-- What an edge does before its capture is kept (R61). -/
def State.edgePeriod (capture : Capture) (s : State) : State :=
  match s.meter.previous with
  | none => (s.captured capture).firstEdge
  | some previous =>
    if validPeriod s.straps.nomfHigh (capture - previous).toNat then
      (s.captured capture).goodPeriod (capture - previous).toNat
    else (s.captured capture).badPeriod

theorem State.edge_eq (capture : Capture) (s : State) : s.edge capture =
    if s.straps.fsrcHigh then s
    else { s.edgePeriod capture with meter := { (s.edgePeriod capture).meter with
      previous := some capture, lossCompare := some capture } } := by
  unfold State.edge State.edgePeriod State.captured
  cases s.meter.previous <;> rfl

theorem queueBlind_edgePeriod (capture : Capture) : QueueBlind (State.edgePeriod capture) := by
  intro s q
  unfold State.edgePeriod
  simp only [State.queued_meter]
  cases s.meter.previous with
  | none => exact queueBlind_firstEdge (s.captured capture) q
  | some previous =>
    exact State.queued_ite (queueBlind_goodPeriod _ (s.captured capture) q)
      (queueBlind_badPeriod (s.captured capture) q)

theorem queueBlind_edge (capture : Capture) : QueueBlind (State.edge capture) := by
  intro s q
  rw [State.edge_eq, State.edge_eq, queueBlind_edgePeriod]
  exact State.queued_ite rfl rfl

theorem queueBlind_lossExpiry : QueueBlind State.lossExpiry := by
  intro s q
  unfold State.lossExpiry
  exact State.queued_ite rfl (State.queued_ite rfl (queueBlind_moveMeter _ s q))

theorem queueBlind_silenceExpiry : QueueBlind State.silenceExpiry := by
  intro s q
  unfold State.silenceExpiry
  refine State.queued_ite rfl ?_
  simp only [State.queued_meter]
  cases s.meter.state with
  | valid | invalid => exact queueBlind_moveMeter _ s q
  | acquiring | lost => rfl

theorem queueBlind_reading (f : Nat) : QueueBlind (State.reading f) := by
  intro s q
  unfold State.reading
  exact State.queued_ite (queueBlind_moveMeasure _ _ s q)
    (State.queued_ite (queueBlind_moveMeter _ s q) (queueBlind_moveMeter _ s q))

/-- FREQ's answer over the part its reading leaves (R70). -/
def freqAnswer (nominal f : Nat) (t : State) : State × Answer :=
  (t, .done (be 1 t.meter.state.code ++ be 1 (if inBand nominal f then 0 else 1)))

theorem answerFreq_eq (body : List Byte) (s : State) :
    answerFreq body s = freqAnswer s.nominal (field body 0 4) (State.reading (field body 0 4) s) := rfl

theorem queueBlind_freqAnswer (nominal f : Nat) : QueueBlindOwner (freqAnswer nominal f) := fun _ _ => rfl

theorem State.queued_nominal (s : State) (q : List Instr) : (s.queued q).nominal = s.nominal := rfl

theorem queueBlind_answerFreq (body : List Byte) : QueueBlindOwner (answerFreq body) := by
  intro s q
  rw [answerFreq_eq, answerFreq_eq, queueBlind_reading, State.queued_nominal]
  exact queueBlind_freqAnswer _ _ _ q

theorem queueBlind_convert (code : Code) : QueueBlind (State.convert code) := by
  intro s q
  unfold State.convert
  simp only [State.queued_analog]
  cases s.analog.converting <;> rfl

theorem queueBlind_thermalUpdate : QueueBlind State.thermalUpdate := by
  intro s q
  exact State.queued_postIf { s with thermal := s.thermal.updated s.profile s.analog (s.arm (secCounts 1)) } q _
    .thermal

end Sys2Proof.Machine

/-! PROOFS. The reads, the Fleet Table, the Delivery Monitor, the dispatch cycle, the fleet link, the store and the
starts, each the same over another queue. -/

namespace Sys2Proof.Machine

/-! ### Reads -/

theorem queueBlind_answerPlanRead (body : List Byte) : QueueBlindOwner (answerPlanRead body) := by
  intro s q
  unfold answerPlanRead
  exact onQueue_ite rfl (onQueue_ite rfl (onQueue_ite rfl rfl))

theorem queueBlind_answerUnitRead (body : List Byte) : QueueBlindOwner (answerUnitRead body) := by
  intro s q
  unfold answerUnitRead
  simp only [State.queued_fleet]
  cases addressOf body with
  | none => rfl
  | some a =>
    dsimp only
    cases Fleet.get s.fleet a <;> rfl

theorem queueBlind_answerDeliveryRead : QueueBlindOwner answerDeliveryRead := by
  intro s q
  unfold answerDeliveryRead
  simp only [State.queued_delivery]
  cases s.delivery.episode <;> rfl

theorem queueBlind_answerLogOpen (port : Port) : QueueBlindOwner (answerLogOpen port) := by
  intro s q
  cases port <;> rfl

theorem queueBlind_answerLogNext (port : Port) : QueueBlindOwner (answerLogNext port) := by
  intro s q
  unfold answerLogNext
  rw [State.queued_port]
  simp only [State.queued_delivery]
  cases (s.port port).logCursor with
  | closed => rfl
  | opened last =>
    dsimp only
    cases logAbove s.delivery.log last with
    | none => rfl
    | some r => exact onQueue_mk (s.queued_setPort q port _)

theorem queueBlind_answerParamRead (body : List Byte) : QueueBlindOwner (answerParamRead body) := by
  intro s q
  unfold answerParamRead
  cases ParamId.ofCode (field body 0 1) <;> rfl

theorem queueBlind_answerParamDescribe (body : List Byte) : QueueBlindOwner (answerParamDescribe body) := by
  intro s q
  unfold answerParamDescribe
  cases ParamId.ofCode (field body 0 1) <;> rfl

/-! ### The Fleet Table -/

theorem queueBlind_answerEnrol (body : List Byte) : QueueBlindOwner (answerEnrol body) := by
  intro s q
  unfold answerEnrol
  dsimp only
  cases addressOf body with
  | none => rfl
  | some a =>
    cases enrolMode (field body 1 1) ((field body 2 1).testBit 0) (declaredFields body) with
    | none => rfl
    | some mode =>
      exact onQueue_ite rfl (onQueue_ite rfl (onQueue_mk (State.queued_post (s.setUnit a _) q .unit)))

/-- The part without the record of an address, before its notices (R24, R134). -/
def State.vacated (s : State) (a : Nat) : State :=
  { s with fleet := Fleet.erase s.fleet a, link := s.link.markRemoved fun b => b == a }

theorem queueBlind_answerRetire (body : List Byte) : QueueBlindOwner (answerRetire body) := by
  intro s q
  unfold answerRetire
  simp only [State.queued_fleet]
  cases addressOf body with
  | none => rfl
  | some a =>
    dsimp only
    cases Fleet.get s.fleet a with
    | none => rfl
    | some u => exact onQueue_mk (State.queued_postIf_postIf (s.vacated a) q u.inTest true .test .unit)

theorem queueBlind_answerUnitMode (body : List Byte) : QueueBlindOwner (answerUnitMode body) := by
  intro s q
  unfold answerUnitMode
  simp only [State.queued_fleet]
  cases addressOf body with
  | none => rfl
  | some a =>
    cases enrolMode (field body 1 1) ((field body 2 1).testBit 0) (declaredFields body) with
    | none => rfl
    | some mode =>
      dsimp only
      cases Fleet.get s.fleet a with
      | none => rfl
      | some u => exact onQueue_ite rfl (onQueue_mk (State.queued_postIf (s.setUnit a _) q _ .unit))

theorem queueBlind_answerUnitTest (body : List Byte) : QueueBlindOwner (answerUnitTest body) := by
  intro s q
  unfold answerUnitTest
  simp only [State.queued_fleet]
  cases addressOf body with
  | none => rfl
  | some a =>
    dsimp only
    cases Fleet.get s.fleet a with
    | none => rfl
    | some u =>
      refine onQueue_ite rfl ?_
      cases u.report with
      | none => rfl
      | some r => exact onQueue_ite rfl rfl

theorem queueBlind_takeFailure (a : Nat) : QueueBlind (State.takeFailure · a) := by
  intro s q
  dsimp only
  unfold State.takeFailure
  simp only [State.queued_fleet]
  cases Fleet.get s.fleet a with
  | none => rfl
  | some u => exact State.queued_postIf_postIf (s.setUnit a _) q _ _ .test .unit

theorem queueBlind_takeReport (a : Nat) (carried : CarriedReport) : QueueBlind (State.takeReport · a carried) := by
  intro s q
  dsimp only
  unfold State.takeReport
  simp only [State.queued_fleet]
  cases Fleet.get s.fleet a with
  | none => rfl
  | some u => exact State.queued_postIf (s.setUnit a _) q _ .unit

theorem queueBlind_testExpiry : QueueBlind State.testExpiry := by
  intro s q
  unfold State.testExpiry
  simp only [State.queued_fleet]
  cases Fleet.underTest s.fleet with
  | none => rfl
  | some a =>
    dsimp only
    cases Fleet.get s.fleet a with
    | none => rfl
    | some u => exact State.queued_postIf_postIf (s.setUnit a _) q true _ .test .unit

/-! ### The Delivery Monitor and the dispatch cycle -/

theorem queueBlind_abortTests : QueueBlind State.abortTests := by
  intro s q
  exact State.queued_postIf { s with fleet := Fleet.mapUnits s.fleet UnitRecord.abortTest } q _ .test

/-- The part as an episode opens, before its notices (R140). -/
def State.episodeOpened (number : Nat) (s : State) : State :=
  { s with
    delivery :=
      { s.delivery with
        episode := some (Episode.opening number s.clock.slot s.clock.second)
        nextNumber := if maxWord ≤ number then none else some (number + 1) }
    fleet := Fleet.mapUnits s.fleet UnitRecord.takeBaseline }

theorem queueBlind_openEpisode (number : Nat) : QueueBlind (State.openEpisode number) := by
  intro s q
  exact (congrArg State.abortTests (State.queued_post (s.episodeOpened number) q .episodeOpen)).trans
    (queueBlind_abortTests _ q)

theorem queueBlind_closeEpisode (e : Episode) : QueueBlind (State.closeEpisode e) := by
  intro s q
  unfold State.closeEpisode
  exact State.queued_post { s with
    delivery :=
      { s.delivery with
        episode := none
        log := appendLog s.delivery.log (e.record s.profile s.clock.slot s.clock.second) }
    fleet := Fleet.mapUnits s.fleet UnitRecord.dropBaseline } q .episodeClosed

theorem queueBlind_account (e : Episode) (opening : Bool) (r : DispatchResult) :
    QueueBlind (State.account e opening r) := by
  intro s q
  have counted := State.queued_postIf { s with delivery := { s.delivery with
    episode := some ((e.accumulate s.profile opening r).1.countQuiet r.required) } } q
    (e.accumulate s.profile opening r).2 .shortfall
  unfold State.account
  refine State.queued_ite ?_ counted
  exact (congrArg (State.closeEpisode _) counted).trans (queueBlind_closeEpisode _ _ q)

theorem queueBlind_takeResult (r : DispatchResult) : QueueBlind (State.takeResult r) := by
  intro s q
  unfold State.takeResult
  simp only [State.queued_delivery]
  cases s.delivery.episode with
  | some e => exact queueBlind_account e false r s q
  | none =>
    refine State.queued_ite rfl ?_
    cases s.delivery.nextNumber with
    | none => rfl
    | some number =>
      exact (congrArg (State.account _ true r) (queueBlind_openEpisode number s q)).trans
        (queueBlind_account _ true r (s.openEpisode number) q)

theorem queueBlind_dispatchCycle : QueueBlind State.dispatchCycle := by
  intro s q
  have first : (s.queued q).cycleComputation.apportion = s.cycleComputation.apportion.queued q :=
    congrArg State.apportion (queueBlind_cycleComputation s q)
  unfold State.dispatchCycle
  dsimp only
  rw [first]
  exact queueBlind_takeResult _ _ q

theorem queueBlind_updateDelivered : QueueBlind State.updateDelivered := by
  intro s q
  unfold State.updateDelivered
  simp only [State.queued_delivery]
  cases s.delivery.episode <;> rfl

/-! ### Rounds and visits -/

theorem queueBlind_refreshPlan : QueueBlind State.refreshPlan := by
  intro s q
  unfold State.refreshPlan
  exact State.queued_ite rfl rfl

theorem queueBlind_evaluate : QueueBlind State.evaluate := by
  intro s q
  have refreshed := queueBlind_refreshPlan s.writeHeadroom.formAvailability q
  have marked : (s.queued q).writeHeadroom.formAvailability.refreshPlan.markAfresh =
      s.writeHeadroom.formAvailability.refreshPlan.markAfresh.queued q := congrArg State.markAfresh refreshed
  unfold State.evaluate
  dsimp only
  rw [marked]
  exact State.queued_postIf _ q _ .risk

theorem queueBlind_beginVisit (a : Nat) : QueueBlind (State.beginVisit · a) := by
  intro s q
  dsimp only
  unfold State.beginVisit
  simp only [State.queued_fleet]
  cases Fleet.get s.fleet a <;> rfl

theorem State.queued_nextVisit (s : State) (q : List Instr) : (s.queued q).nextVisit = s.nextVisit := rfl

theorem queueBlind_startWalk : QueueBlind State.startWalk := by
  intro s q
  unfold State.startWalk
  rw [State.queued_nextVisit]
  cases s.nextVisit with
  | none => rfl
  | some a => exact queueBlind_beginVisit a s q

/-- The next round's counter, start index and timer stand (R128). -/
def State.roundAdvanced (s : State) : State :=
  { s with link :=
    { s.link with
      round := if maxWord ≤ s.link.round then 0 else s.link.round + 1
      startIndex := advanceIndex s.link.startIndex
      position := none
      roundTimer := some (s.arm (msCounts 200)) } }

theorem queueBlind_completeRound : QueueBlind State.completeRound := by
  intro s q
  have evaluated := queueBlind_evaluate s.roundAdvanced q
  have delivered := (congrArg State.updateDelivered evaluated).trans (queueBlind_updateDelivered _ q)
  exact (congrArg State.startWalk delivered).trans (queueBlind_startWalk _ q)

theorem queueBlind_walk : QueueBlind State.walk := by
  intro s q
  unfold State.walk
  rw [State.queued_nextVisit]
  cases s.nextVisit with
  | none => exact State.queued_ite (queueBlind_completeRound s q) rfl
  | some a => exact queueBlind_beginVisit a s q

theorem queueBlind_frameSent : QueueBlind State.frameSent := by
  intro s q
  unfold State.frameSent
  simp only [State.queued_link]
  cases s.link.phase with
  | sending => cases s.link.visit <;> rfl
  | awaiting | quiet | pacing => rfl

theorem queueBlind_takeOutcome (v : Visit) (outcome : Except FailureCause CarriedReport) :
    QueueBlind (State.takeOutcome · v outcome) := by
  intro s q
  dsimp only
  unfold State.takeOutcome
  refine State.queued_ite rfl ?_
  cases outcome with
  | ok carried => exact queueBlind_takeReport v.address carried s q
  | error cause => exact queueBlind_takeFailure v.address s q

theorem queueBlind_endAwaiting (buffer : List Byte) (judge : Visit → Except FailureCause CarriedReport) :
    QueueBlind (State.endAwaiting · buffer judge) := by
  intro s q
  dsimp only
  unfold State.endAwaiting
  simp only [State.queued_link]
  cases s.link.phase with
  | sending | quiet | pacing => rfl
  | awaiting timeout =>
    cases s.link.visit with
    | none => rfl
    | some v => exact congrArg (State.enterQuiet · buffer) (queueBlind_takeOutcome v (judge v) s q)

theorem queueBlind_quietCharacter : QueueBlind State.quietCharacter := by
  intro s q
  unfold State.quietCharacter
  simp only [State.queued_link]
  cases s.link.phase <;> rfl

theorem queueBlind_frameReceived (frame : List Byte) : QueueBlind (State.frameReceived frame) := by
  intro s q
  unfold State.frameReceived
  simp only [State.queued_link]
  refine State.queued_ite rfl ?_
  cases s.link.phase with
  | awaiting timeout => exact queueBlind_endAwaiting frame _ s q
  | sending | quiet | pacing => exact queueBlind_quietCharacter s q

theorem queueBlind_lengthInvalid (length : Byte) : QueueBlind (State.lengthInvalid length) := by
  intro s q
  unfold State.lengthInvalid
  exact State.queued_ite rfl (queueBlind_endAwaiting [length] _ s q)

theorem queueBlind_quietEnd : QueueBlind State.quietEnd := by
  intro s q
  unfold State.quietEnd
  simp only [State.queued_link]
  cases s.link.phase with
  | quiet => exact queueBlind_walk s q
  | sending | awaiting | pacing => rfl

/-- The round timer has expired (R127). -/
def State.untimed (s : State) : State := { s with link := { s.link with roundTimer := none } }

theorem State.roundExpiry_eq (s : State) : s.roundExpiry =
    match s.link.roundTimer, s.link.phase with
    | none, _ => s
    | some _, .pacing => s.untimed.completeRound
    | some _, _ => s.untimed := by
  unfold State.roundExpiry State.untimed
  cases s.link.roundTimer with
  | none => rfl
  | some timer => cases s.link.phase <;> rfl

theorem queueBlind_roundExpiry : QueueBlind State.roundExpiry := by
  intro s q
  rw [State.roundExpiry_eq, State.roundExpiry_eq]
  simp only [State.queued_link]
  cases s.link.roundTimer with
  | none => rfl
  | some timer =>
    cases s.link.phase with
    | pacing => exact queueBlind_completeRound s.untimed q
    | sending | awaiting | quiet => rfl

/-! ### The store, the profiles and the starts -/

theorem State.queued_finish (s : State) (q : List Instr) (port : Port) (r : Reply) :
    (s.queued q).finish port r = (s.finish port r).queued q := by cases port <;> rfl

theorem queueBlind_finishWrite : QueueBlind State.finishWrite := by
  intro s q
  unfold State.finishWrite
  simp only [State.queued_market]
  cases s.market.service with
  | none => exact s.queued_post q .store
  | some v =>
    exact State.queued_post (s.finish .market (doneReply v.kind.code v.tag [])) q .store

theorem queueBlind_saveComplete : QueueBlind State.saveComplete := by
  intro s q
  unfold State.saveComplete
  simp only [State.queued_store]
  split
  · exact queueBlind_finishWrite { s with store := _ } q
  · rfl

theorem queueBlind_startupComplete : QueueBlind State.startupComplete := by
  intro s q
  unfold State.startupComplete
  simp only [State.queued_store]
  split
  · exact queueBlind_finishWrite { s with store := _ } q
  · rfl

theorem queueBlind_load (x : StoredProfile) : QueueBlind (State.load · x) := by
  intro s q
  simp only [State.load_eq]
  rfl

theorem queueBlind_answerProfileSave (body : List Byte) : QueueBlindOwner (answerProfileSave body) := by
  intro s q
  unfold answerProfileSave
  dsimp only
  cases ProfileSlot.ofCode (field body 0 1) with
  | none => rfl
  | some slot => cases slot <;> rfl

theorem queueBlind_answerProfileStartup (body : List Byte) : QueueBlindOwner (answerProfileStartup body) := by
  intro s q
  unfold answerProfileStartup
  cases ProfileSlot.ofCode (field body 0 1) <;> rfl

theorem queueBlind_answerProfileLoad (body : List Byte) : QueueBlindOwner (answerProfileLoad body) := by
  intro s q
  unfold answerProfileLoad
  cases ProfileSlot.ofCode (field body 0 1) with
  | none => rfl
  | some slot =>
    exact onQueue_ite rfl (onQueue_ite rfl (onQueue_mk (queueBlind_load (s.store.slot slot) s q)))

theorem queueBlind_answerParamSet (body : List Byte) : QueueBlindOwner (answerParamSet body) := by
  intro s q
  unfold answerParamSet
  cases ParamId.ofCode (field body 0 1) with
  | none => rfl
  | some i =>
    dsimp only
    cases appliedValue i (fieldInt body 1 4) with
    | none => rfl
    | some v => exact onQueue_ite rfl rfl

theorem queueBlind_startUp : QueueBlind State.startUp := by
  intro s q
  rw [State.startUp_eq, State.startUp_eq]
  have started : (s.queued q).started = s.started.queued q := rfl
  rw [started, queueBlind_startWalk]
  rfl

theorem queueBlind_startOrHold : QueueBlind State.startOrHold := by
  intro s q
  unfold State.startOrHold
  exact State.queued_ite (queueBlind_startUp s q) rfl

end Sys2Proof.Machine

/-! PROOFS. The ports over another queue, every request by its owner, and so every command. -/

namespace Sys2Proof.Machine

/-! ### The ports -/

section Ports

variable (port : Port)

/-- An operation on one port's own record (10.1, 10.4). -/
theorem queueBlind_onPort (f : PortState → PortState) : QueueBlind fun s => s.setPort port (f (s.port port)) := by
  intro s q
  cases port <;> rfl

theorem queueBlind_unknownKind (kind tag : Byte) : QueueBlind (State.unknownKind port kind tag) := by
  intro s q
  unfold State.unknownKind
  cases port <;> exact State.queued_ite rfl rfl

theorem queueBlind_replyTransmitted : QueueBlind fun s =>
    if s.sendingRestart port then s.startUp else s.setPort port (s.port port).transmitted := by
  intro s q
  exact State.queued_ite (queueBlind_startUp s q) (queueBlind_onPort port PortState.transmitted s q)

theorem queueBlind_attentionPulse : QueueBlind fun s =>
    if s.profile.pulseMode port then s.setPort port (s.port port).pulseTimer else s := by
  intro s q
  exact State.queued_ite (queueBlind_onPort port PortState.pulseTimer s q) rfl

theorem queueBlind_restartReplySent : QueueBlind fun s => if s.restarting then s.startUp else s := by
  intro s q
  exact State.queued_ite (queueBlind_startUp s q) rfl

theorem queueBlind_answerNoticeRead : QueueBlindOwner (answerNoticeRead port) := by
  intro s q
  cases port <;> rfl

theorem queueBlind_answerNoticeMask (body : List Byte) : QueueBlindOwner (answerNoticeMask port body) := by
  intro s q
  unfold answerNoticeMask
  exact onQueue_ite rfl rfl

theorem queueBlind_answerRestart (tag : Byte) : QueueBlindOwner (answerRestart port tag) := by
  intro s q
  cases port <;> rfl

end Ports

/-! ### Requests -/

/-- The end of a request's service by its owner's answer (R156). -/
def answered (kind : RequestKind) (port : Port) (tag : Byte) (x : State × Answer) : State :=
  match x.2 with
  | .done reply => x.1.finish port (doneReply kind.code tag reply)
  | .refused reason => x.1.finish port (refusedReply kind.code tag reason)
  | .held => x.1

theorem answered_onQueue (kind : RequestKind) (port : Port) (tag : Byte) (x : State × Answer) (q : List Instr) :
    answered kind port tag (onQueue q x) = (answered kind port tag x).queued q := by
  obtain ⟨t, answer⟩ := x
  cases answer with
  | done reply => exact t.queued_finish q port _
  | refused reason => exact t.queued_finish q port _
  | held => rfl

theorem State.queued_heard (s : State) (q : List Instr) (port : Port) :
    (s.queued q).heard port = (s.heard port).queued q := by cases port <;> rfl

theorem queueBlind_serve (kind : RequestKind) (port : Port) (tag : Byte) (body : List Byte)
    {owner : State → State × Answer} (blind : QueueBlindOwner owner) :
    QueueBlind (serve kind port tag body owner) := by
  intro s q
  have entered (t : State) : (t.queued q).enter port kind tag = (t.enter port kind tag).queued q := by
    cases port <;> rfl
  have send (t : State) (r : Reply) : (t.queued q).send port r = (t.send port r).queued q := by
    cases port <;> rfl
  have served : answered kind port tag (owner (((s.heard port).queued q).enter port kind tag)) =
      (answered kind port tag (owner ((s.heard port).enter port kind tag))).queued q := by
    rw [entered, blind, answered_onQueue]
  unfold serve
  dsimp only
  rw [State.queued_heard, State.queued_port]
  exact State.queued_ite (State.queued_setPort _ q port _)
    (State.queued_ite (send _ _) (State.queued_ite (send _ _) served))

/-- A row that completes, and over any queue completes alike and leaves that queue. -/
def QueueBlindRow (row : State → Host.Outcome State Fault Refusal) : Prop :=
  ∀ s, ∃ t, row s = .next t ∧ ∀ q, row (s.queued q) = .next (t.queued q)

theorem queueBlindRow_next {f : State → State} (blind : QueueBlind f) : QueueBlindRow fun s => .next (f s) :=
  fun s => ⟨f s, rfl, fun q => congrArg _ (blind s q)⟩

theorem queueBlindRow_whenRunning {f : State → State} (blind : QueueBlind f) : QueueBlindRow (whenRunning f) :=
  queueBlindRow_next fun s q => State.queued_ite (blind s q) rfl

theorem queueBlindRow_request (kind : RequestKind) (port : Port) (tag : Byte) (body : List Byte)
    {owner : State → State × Answer} (blind : QueueBlindOwner owner) :
    QueueBlindRow (request kind port tag body owner) :=
  queueBlindRow_whenRunning (queueBlind_serve kind port tag body blind)

theorem queueBlindRow_requestOf (kind : RequestKind) (port : Port) (tag : Byte) (body : List Byte) :
    QueueBlindRow (requestOf kind port tag body) := by
  have row {owner : State → State × Answer} (blind : QueueBlindOwner owner) :=
    queueBlindRow_request kind port tag body blind
  cases kind with
  | award => exact row (queueBlind_answerAward body)
  | withdraw => exact row (queueBlind_answerRemoval true body)
  | release => exact row (answerRemoval_false ▸ queueBlind_answerRemoval false body)
  | bookOpen => exact row (queueBlind_answerBookOpen port)
  | bookNext => exact row (queueBlind_answerBookNext port)
  | timeSync => exact row (queueBlind_answerTimeSync body)
  | level => exact row (queueBlind_answerLevel body)
  | freq => exact row (queueBlind_answerFreq body)
  | planRead => exact row (queueBlind_answerPlanRead body)
  | availRead => exact row (owner := answerAvailRead) fun _ _ => rfl
  | enrol => exact row (queueBlind_answerEnrol body)
  | retire => exact row (queueBlind_answerRetire body)
  | unitMode => exact row (queueBlind_answerUnitMode body)
  | unitTest => exact row (queueBlind_answerUnitTest body)
  | unitRead => exact row (queueBlind_answerUnitRead body)
  | logOpen => exact row (queueBlind_answerLogOpen port)
  | logNext => exact row (queueBlind_answerLogNext port)
  | deliveryRead => exact row queueBlind_answerDeliveryRead
  | paramSet => exact row (queueBlind_answerParamSet body)
  | paramRead => exact row (queueBlind_answerParamRead body)
  | paramDescribe => exact row (queueBlind_answerParamDescribe body)
  | profileSave => exact row (queueBlind_answerProfileSave body)
  | profileLoad => exact row (queueBlind_answerProfileLoad body)
  | profileStartup => exact row (queueBlind_answerProfileStartup body)
  | noticeRead => exact row (queueBlind_answerNoticeRead port)
  | noticeMask => exact row (queueBlind_answerNoticeMask port body)
  | statusRead => exact row (owner := answerStatusRead) fun _ _ => rfl
  | restart => exact row (queueBlind_answerRestart port tag)

theorem queueBlindRow_takeRequest (port : Port) (kind tag : Byte) (body : List Byte) :
    QueueBlindRow (takeRequest port kind tag body) := by
  unfold takeRequest
  cases RequestKind.ofCode kind with
  | none => exact queueBlindRow_whenRunning (queueBlind_unknownKind port kind tag)
  | some known => exact queueBlindRow_requestOf known port tag body

/-! ### Every command -/

theorem queueBlind_putReceiver (port : Port) (r : Receiver) : QueueBlind (State.putReceiver · port r) :=
  queueBlind_onPort port fun x => { x with receiver := r }

theorem queueBlindRow_portByte (port : Port) (byte : Byte) : QueueBlindRow (execPortByteReceived port byte) := by
  intro s
  have running (q : List Instr) : (s.queued q).running = s.running := rfl
  unfold execPortByteReceived
  simp only [running, State.queued_port]
  cases s.running with
  | false => exact ⟨s, rfl, fun q => rfl⟩
  | true =>
    cases (s.port port).receiver with
    | hunting first => exact queueBlindRow_next (queueBlind_putReceiver port _) s
    | receiving bytes silence =>
      dsimp only
      cases judgeGathered (bytes ++ [byte]) with
      | incomplete => exact queueBlindRow_next (queueBlind_putReceiver port _) s
      | discarded => exact queueBlindRow_next (queueBlind_putReceiver port _) s
      | request kind tag body => exact queueBlindRow_takeRequest port kind tag body s

theorem queueBlind_resetPinRelease : QueueBlind fun s =>
    if s.resetLow then State.startOrHold { s with resetLow := false } else s := by
  intro s q
  exact State.queued_ite (queueBlind_startOrHold { s with resetLow := false } q) rfl

theorem queueBlindRow_exec (c : Instr) : QueueBlindRow (exec c) := by
  have start {f : State → State} (sets : QueueBlind f) : QueueBlindRow fun s => .next (f s).startOrHold :=
    queueBlindRow_next fun s q => (congrArg State.startOrHold (sets s q)).trans (queueBlind_startOrHold (f s) q)
  have event {f : State → State} (blind : QueueBlind f) := queueBlindRow_whenRunning blind
  cases c with
  | powerOn nomfHigh fsrcHigh =>
    exact start (f := fun s => { s with powered := true, straps := ⟨nomfHigh, fsrcHigh⟩ }) fun _ _ => rfl
  | supplyLoss => exact start (f := fun s => { s with powered := false }) fun _ _ => rfl
  | resetPinLow => exact start (f := fun s => { s with resetLow := true }) fun _ _ => rfl
  | resetPinRelease => exact queueBlindRow_next queueBlind_resetPinRelease
  | restartReplySent => exact event queueBlind_restartReplySent
  | requestDiscarded port => exact event (queueBlind_onPort port PortState.discard)
  | receiverSilence port => exact event (queueBlind_onPort port PortState.discard)
  | unknownRequest port kind tag body => exact event (queueBlind_unknownKind port kind tag)
  | award port tag body => exact queueBlindRow_requestOf .award port tag body
  | withdraw port tag body => exact queueBlindRow_requestOf .withdraw port tag body
  | release port tag body => exact queueBlindRow_requestOf .release port tag body
  | bookOpen port tag body => exact queueBlindRow_requestOf .bookOpen port tag body
  | bookNext port tag body => exact queueBlindRow_requestOf .bookNext port tag body
  | timeSync port tag body => exact queueBlindRow_requestOf .timeSync port tag body
  | slotBoundary => exact event queueBlind_passBoundary
  | level port tag body => exact queueBlindRow_requestOf .level port tag body
  | freq port tag body => exact queueBlindRow_requestOf .freq port tag body
  | planRead port tag body => exact queueBlindRow_requestOf .planRead port tag body
  | availRead port tag body => exact queueBlindRow_requestOf .availRead port tag body
  | enrol port tag body => exact queueBlindRow_requestOf .enrol port tag body
  | retire port tag body => exact queueBlindRow_requestOf .retire port tag body
  | unitMode port tag body => exact queueBlindRow_requestOf .unitMode port tag body
  | unitTest port tag body => exact queueBlindRow_requestOf .unitTest port tag body
  | unitRead port tag body => exact queueBlindRow_requestOf .unitRead port tag body
  | logOpen port tag body => exact queueBlindRow_requestOf .logOpen port tag body
  | logNext port tag body => exact queueBlindRow_requestOf .logNext port tag body
  | deliveryRead port tag body => exact queueBlindRow_requestOf .deliveryRead port tag body
  | paramSet port tag body => exact queueBlindRow_requestOf .paramSet port tag body
  | paramRead port tag body => exact queueBlindRow_requestOf .paramRead port tag body
  | paramDescribe port tag body => exact queueBlindRow_requestOf .paramDescribe port tag body
  | profileSave port tag body => exact queueBlindRow_requestOf .profileSave port tag body
  | saveWriteComplete => exact event queueBlind_saveComplete
  | profileStartup port tag body => exact queueBlindRow_requestOf .profileStartup port tag body
  | startupWriteComplete => exact event queueBlind_startupComplete
  | profileLoad port tag body => exact queueBlindRow_requestOf .profileLoad port tag body
  | noticeRead port tag body => exact queueBlindRow_requestOf .noticeRead port tag body
  | noticeMask port tag body => exact queueBlindRow_requestOf .noticeMask port tag body
  | statusRead port tag body => exact queueBlindRow_requestOf .statusRead port tag body
  | restart port tag body => exact queueBlindRow_requestOf .restart port tag body
  | attentionPulseTimer port => exact event (queueBlind_attentionPulse port)
  | lrefEdge capture => exact event (queueBlind_edge capture)
  | lossCompareExpiry => exact event queueBlind_lossExpiry
  | silenceTimerExpiry => exact event queueBlind_silenceExpiry
  | conversionSetStart => exact event (f := State.startSet) fun _ _ => rfl
  | conversionComplete code => exact event (queueBlind_convert code)
  | thermalUpdate => exact event queueBlind_thermalUpdate
  | dispatchCycle => exact event queueBlind_dispatchCycle
  | supportTimerExpiry id => exact event (queueBlind_supportExpiry id.toNat)
  | lockoutTimerExpiry id =>
    exact event (f := fun s => s.setRecords
      (changeId id.toNat (fun c => c.mapLevel fun l => l.mapPhase endLockout) s.book.records)) fun _ _ => rfl
  | levelAgeLate => exact event queueBlind_ageLate
  | levelAgeExpired => exact event queueBlind_ageExpired
  | testTimerExpiry => exact event queueBlind_testExpiry
  | roundTimerExpiry => exact event queueBlind_roundExpiry
  | setpointFrameSent => exact event queueBlind_frameSent
  | reportFrameReceived frame => exact event (queueBlind_frameReceived frame)
  | reportLengthInvalid length => exact event (queueBlind_lengthInvalid length)
  | replyTimeout => exact event (queueBlind_endAwaiting [] fun _ => .error .timeout)
  | quietEnd => exact event queueBlind_quietEnd
  | secondInSlotAdvance => exact event queueBlind_passSecond
  | portByteReceived port byte => exact queueBlindRow_portByte port byte
  | replyTransmitted port => exact event (queueBlind_replyTransmitted port)
  | quietCharacterReceived => exact event queueBlind_quietCharacter

/-- Settles O3: a command commutes with any queue; over the part's own queue, that queue stands after it. -/
theorem commandsLeaveTheQueueAlone : Obligations.CommandsLeaveTheQueueAlone := by
  intro c s t q done
  obtain ⟨u, completes, alike⟩ := queueBlindRow_exec c s
  obtain rfl : u = t := Host.Outcome.next.inj (completes.symm.trans done)
  have own : u = u.queued s.pending := Host.Outcome.next.inj (completes.symm.trans (alike s.pending))
  have kept := congrArg State.pending own
  exact ⟨kept, alike q⟩

end Sys2Proof.Machine
